-- ==== Sys2Proof/Word.lean ====
section
/-! DEFINITION. The word and byte types (00_scope.md R11: every value is unsigned, bit 0 is the least significant). -/

namespace Sys2Proof

/-- A 32-bit port field, header word or filter word (10_state.md R20, 20_memory.md R61). -/
abbrev Word := BitVec 32

/-- A payload or data byte. -/
abbrev Byte := BitVec 8

end Sys2Proof
end

