-- ==== Sys2Proof/Config.lean ====
section
/-! DEFINITION. What one implementation fixes: the constants of 00_scope.md R9, the open parameters of R10 with their
defaults, the plain data types they range over, and the free values (opaque: no proof can see them). -/

namespace Sys2Proof

/-! ### Data types of the block's storage -/

/-- The two controller instances (00_scope.md R2). -/
inductive InstId where
  | i0
  | i1
  deriving DecidableEq, Repr, Inhabited

/-- An identifier with its type tag: 11 bits standard, 29 bits extended (00_scope.md R15, R16). -/
inductive Ident where
  | std (id : BitVec 11)
  | ext (id : BitVec 29)
  deriving DecidableEq, Repr, Inhabited

/-- A standard filter slot (10_state.md R28): disabled, or a mask filter routed to receive FIFO 0. -/
inductive StdFilter where
  | disabled
  | mask (fid fmask : BitVec 11)
  deriving DecidableEq, Repr, Inhabited

/-- An extended filter slot (10_state.md R29). -/
inductive ExtFilter where
  | disabled
  | mask (fid fmask : BitVec 29)
  deriving DecidableEq, Repr, Inhabited

/-- A bit-timing record (10_state.md R25). -/
structure Timing where
  prescaler : Nat
  seg1 : Nat
  seg2 : Nat
  sjw : Nat
  deriving DecidableEq, Repr, Inhabited

/-- Frame format of the configuration (10_state.md R26); only classic is ever written. -/
inductive FrameFormat where
  | classic
  | fd
  deriving DecidableEq, Repr, Inhabited

/-- Operating mode of the configuration (10_state.md R26; 45_bus_agent.md R275); only normal is ever written. -/
inductive OpMode where
  | normal
  | loopback
  deriving DecidableEq, Repr, Inhabited

/-- The configuration record `cfg` (10_state.md R26). -/
structure Cfg where
  frameFormat : FrameFormat
  mode : OpMode
  autoRetransmission : Bool
  protocolException : Bool
  stdFilters : Nat
  extFilters : Nat
  rxFifo0Depth : Nat
  txQueueDepth : Nat
  txEventDepth : Nat
  deriving DecidableEq, Repr, Inhabited

/-- What happens to a frame no filter matches (10_state.md R27). -/
inductive NonMatch where
  | acceptFifo0
  | acceptFifo1
  | reject
  deriving DecidableEq, Repr, Inhabited

/-- The global filter policy `gfp` (10_state.md R27). -/
structure Gfp where
  anfs : NonMatch
  anfe : NonMatch
  rrfs : Bool
  rrfe : Bool
  deriving DecidableEq, Repr, Inhabited

/-! ### Constants of the deployment (00_scope.md R9) -/

/-- `N_STD_FILTERS`. -/
abbrev Config.nStdFilters : Nat := 128
/-- `N_EXT_FILTERS`. -/
abbrev Config.nExtFilters : Nat := 64
/-- `RXF0_DEPTH`. -/
abbrev Config.rxf0Depth : Nat := 64
/-- `TXQ_DEPTH`. -/
abbrev Config.txqDepth : Nat := 32
/-- `TEF_DEPTH`. -/
abbrev Config.tefDepth : Nat := 32
/-- `MAX_RX_PAYLOAD`. -/
abbrev Config.maxRxPayload : Nat := 8
/-- `RX_ELEM_BYTES` (10_state.md R33, decision D7). -/
abbrev Config.rxElemBytes : Nat := 64

/-! ### Parameters the spec leaves open (00_scope.md R10)

The model takes them as an argument: `State.params`, which no transition writes (log 3). -/

/-- `Layout`: the bit layout of header and filter words. The spec gives one value (D1, log 16). -/
inductive Layout where
  | fdcanH7
  deriving DecidableEq, Repr, Inhabited

/-- `CLASSIC_OVERLENGTH` (D5). -/
inductive ClassicOverlength where
  | truncate
  | reject
  deriving DecidableEq, Repr, Inhabited

/-- `RX_OVERLENGTH` (D9). -/
inductive RxOverlength where
  | truncate
  | fault
  deriving DecidableEq, Repr, Inhabited

/-- `UNPROGRAMMED_SLOT` (D13). -/
inductive UnprogrammedSlot where
  | disabled
  | arbitrary
  deriving DecidableEq, Repr, Inhabited

/-- `RECONFIG_QUEUES` (D17). -/
inductive ReconfigQueues where
  | empty
  | emptyOrKept
  deriving DecidableEq, Repr, Inhabited

/-- `RX_OVERFLOW` (D20). -/
inductive RxOverflow where
  | dropNew
  | overwrite
  deriving DecidableEq, Repr, Inhabited

/-- One closed range of a timing value. -/
structure Range where
  lo : Nat
  hi : Nat
  deriving DecidableEq, Repr, Inhabited

/-- `TIMING_RANGE` (D18): the ranges the hardware validates timing against. -/
structure TimingRange where
  prescaler : Range
  seg1 : Range
  seg2 : Range
  sjw : Range
  deriving DecidableEq, Repr, Inhabited

/-- The parameters of 00_scope.md R10. -/
structure Params where
  layout : Layout
  classicOverlength : ClassicOverlength
  rxOverlength : RxOverlength
  rxReadMayFail : Bool
  txSubmitMayFail : Bool
  errTxFull : Word
  unprogrammedSlot : UnprogrammedSlot
  reconfigQueues : ReconfigQueues
  configMayFail : Bool
  timingRange : TimingRange
  dataTiming : Timing
  rxOverflow : RxOverflow
  hwCounterWidth : Nat
  deriving DecidableEq, Repr, Inhabited

/-- `ERR_TX_FULL`, OPEN (D11): no value is chosen. -/
opaque Config.errTxFull : Word
/-- `DATA_TIMING`, OPEN and read by no rule (D19). -/
opaque Config.dataTiming : Timing
/-- How many bits the raw error counters have above 8: `HW_COUNTER_WIDTH` is OPEN and at least 8 (D22). -/
opaque Config.extraCounterBits : Nat

/-- The bounds 92_eei_decisions.md D18 suggests, which R233 names as those to take when there is no better evidence
(DESIGN CHOICE, log 4). -/
def Config.suggestedTimingRange : TimingRange :=
  { prescaler := { lo := 1, hi := 512 }
    seg1 := { lo := 1, hi := 256 }
    seg2 := { lo := 1, hi := 128 }
    sjw := { lo := 1, hi := 128 } }

/-- The parameters at their defaults (00_scope.md R10). -/
def Config.defaults : Params :=
  { layout := .fdcanH7
    classicOverlength := .truncate
    rxOverlength := .truncate
    rxReadMayFail := true
    txSubmitMayFail := false
    errTxFull := Config.errTxFull
    unprogrammedSlot := .disabled
    reconfigQueues := .empty
    configMayFail := false
    timingRange := Config.suggestedTimingRange
    dataTiming := Config.dataTiming
    rxOverflow := .dropNew
    hwCounterWidth := 8 + Config.extraCounterBits }

/-! ### Free values (`draw(T)`, 00_scope.md R13)

The first argument is the turn (`State.turnNo`, advanced by every turn), the second the number of the draw in the turn
(log 8). -/

/-- A drawn truth value. -/
opaque Config.freeBool : Nat → Nat → Bool
/-- A drawn 32-bit word; narrower draws take its low bits. -/
opaque Config.freeWord : Nat → Nat → Word
/-- A drawn natural number, for the raw error counters (10_state.md R34). -/
opaque Config.freeNat : Nat → Nat → Nat
/-- A drawn standard filter slot. -/
opaque Config.freeStdFilter : Nat → Nat → StdFilter
/-- A drawn extended filter slot. -/
opaque Config.freeExtFilter : Nat → Nat → ExtFilter
/-- The unspecified timing DEINIT leaves (44_controller_context.md R236). -/
opaque Config.freeTiming : Nat → Timing
/-- The unspecified configuration DEINIT leaves. -/
opaque Config.freeCfg : Nat → Cfg
/-- The unspecified global policy DEINIT leaves. -/
opaque Config.freeGfp : Nat → Gfp

end Sys2Proof
end

