-- ==== Sys2Proof/Syntax.lean ====
section
/-! DEFINITION. The host commands as syntax: one constructor per row of spec/opcode_table.json (30_encoding.md R91). -/

namespace Sys2Proof

/-- A host command with the operands its command word carries. `inst` is `INST`, `xtd` and `rtr` are the flag
operands (30_encoding.md R90); a flag the row does not use has no place in the term. -/
inductive Instr where
  | dlcEnc
  | dlcDec
  | frameEnc (xtd rtr : Bool)
  | frameDec
  | write (inst : InstId) (xtd rtr : Bool)
  | read (inst : InstId)
  | filterProg (inst : InstId) (xtd : Bool)
  | accept (inst : InstId) (xtd rtr : Bool)
  | txFree (inst : InstId)
  | init (inst : InstId)
  | deinit (inst : InstId)
  | setBitTiming (inst : InstId)
  | rxErr (inst : InstId)
  | txErr (inst : InstId)
  deriving DecidableEq, Repr

end Sys2Proof
end

