-- ==== Sys2Proof/WellFormed.lean ====
section
/-! DEFINITION. What makes a command word legal, field by field (30_encoding.md R90, R91, R93), and what makes a choice
of the open parameters legal (00_scope.md R10). Every term of `Instr` stands for a legal word: its unused flags have no
place in the term (`Laws/Decode.lean`, `raw_wf`). -/

namespace Sys2Proof

/-- The fields of a command word (30_encoding.md R90), before any check. -/
structure RawCmd where
  reserved : BitVec 21
  rtr : Bool
  xtd : Bool
  inst : Bool
  opc : BitVec 8
  deriving DecidableEq, Repr

/-- Which of `INST`, `XTD` and `RTR` a row of R91 uses. -/
structure FlagUse where
  inst : Bool
  xtd : Bool
  rtr : Bool
  deriving DecidableEq, Repr

/-- The INST, XTD and RTR columns of the command map (30_encoding.md R91); none for a reserved opcode (R93). -/
def flagUse (opc : BitVec 8) : Option FlagUse :=
  match opc.toNat with
  | 0x01 => some { inst := false, xtd := false, rtr := false }
  | 0x02 => some { inst := false, xtd := false, rtr := false }
  | 0x03 => some { inst := false, xtd := true, rtr := true }
  | 0x04 => some { inst := false, xtd := false, rtr := false }
  | 0x05 => some { inst := true, xtd := true, rtr := true }
  | 0x06 => some { inst := true, xtd := false, rtr := false }
  | 0x07 => some { inst := true, xtd := true, rtr := false }
  | 0x08 => some { inst := true, xtd := true, rtr := true }
  | 0x09 => some { inst := true, xtd := false, rtr := false }
  | 0x10 => some { inst := true, xtd := false, rtr := false }
  | 0x11 => some { inst := true, xtd := false, rtr := false }
  | 0x12 => some { inst := true, xtd := false, rtr := false }
  | 0x13 => some { inst := true, xtd := false, rtr := false }
  | 0x14 => some { inst := true, xtd := false, rtr := false }
  | _ => none

/-- Bits 31:11 are 0 (30_encoding.md R93). -/
def RawCmd.reservedClear (c : RawCmd) : Bool := c.reserved == 0

/-- The opcode is in the command map (30_encoding.md R93). -/
def RawCmd.opcodeKnown (c : RawCmd) : Bool := (flagUse c.opc).isSome

/-- No flag is set where the command map says it must be 0 (30_encoding.md R93). -/
def RawCmd.flagsAllowed (c : RawCmd) : Bool :=
  match flagUse c.opc with
  | none => true
  | some u => (!c.inst || u.inst) && (!c.xtd || u.xtd) && (!c.rtr || u.rtr)

/-- A legal command word. -/
def RawCmd.wf (c : RawCmd) : Bool := c.reservedClear && c.opcodeKnown && c.flagsAllowed

/-- The counters are at least 8 bits wide (00_scope.md R10, D22). -/
def Params.counterWidthLegal (p : Params) : Bool := decide (8 ≤ p.hwCounterWidth)

/-- A range that admits a value. -/
def Range.holds (r : Range) (v : Nat) : Bool := decide (r.lo ≤ v) && decide (v ≤ r.hi)

/-- The timing 20, 13, 2, 1 is valid (92_eei_decisions.md D18). -/
def Params.exampleTimingLegal (p : Params) : Bool :=
  p.timingRange.prescaler.holds 20 && p.timingRange.seg1.holds 13 && p.timingRange.seg2.holds 2
    && p.timingRange.sjw.holds 1

/-- A legal choice of the open parameters. -/
def Params.wf (p : Params) : Bool := p.counterWidthLegal && p.exampleTimingLegal

end Sys2Proof
end

