-- ==== Sys2Proof/Decode.lean ====
section
/-! DEFINITION. Decoding and encoding of the 32-bit command word (30_encoding.md R90, R91, R93, R94), and the bit-field
helpers every layout is written with. -/

namespace Sys2Proof

/-! ### Bit fields (00_scope.md R11) -/

/-- `bit(b) << n` as a 32-bit word (41_frame_encoder.md R141: `bit(true) = 1`, `bit(false) = 0`). -/
def flagBit (b : Bool) (n : Nat) : Word := if b then 1#32 <<< n else 0#32

/-- `v << n` for a field `v` narrower than a word. -/
def placed {w : Nat} (v : BitVec w) (n : Nat) : Word := v.setWidth 32 <<< n

/-- `v[lo+len-1:lo]`, `len` bits wide. -/
def field (v : Word) (lo len : Nat) : BitVec len := v.extractLsb' lo len

/-! ### The instance bit -/

/-- `INST` selects the instance (30_encoding.md R92). -/
def InstId.ofBit (b : Bool) : InstId := if b then .i1 else .i0

/-- The `INST` bit of an instance. -/
def InstId.toBit : InstId → Bool
  | .i0 => false
  | .i1 => true

/-! ### The fields of a command word (30_encoding.md R90) -/

/-- Split a word into the fields of R90. -/
def RawCmd.ofWord (w : Word) : RawCmd :=
  { reserved := field w 11 21
    rtr := w.getLsbD 10
    xtd := w.getLsbD 9
    inst := w.getLsbD 8
    opc := field w 0 8 }

/-- Put the fields of R90 together. -/
def RawCmd.toWord (c : RawCmd) : Word :=
  placed c.reserved 11 ||| flagBit c.rtr 10 ||| flagBit c.xtd 9 ||| flagBit c.inst 8 ||| placed c.opc 0

/-! ### Decoding -/

/-- Why a word is no command (30_encoding.md R93). All are the refusal `IllegalCommand` (60_exceptions.md R309). -/
inductive DecodeError where
  | reservedBits
  | reservedOpcode
  | unusedInst
  | unusedXtd
  | unusedRtr
  deriving DecidableEq, Repr

/-- A row that uses no flag. -/
def noFlags (c : RawCmd) (i : Instr) : Except DecodeError Instr :=
  if c.inst then .error .unusedInst else if c.xtd then .error .unusedXtd else if c.rtr then .error .unusedRtr else .ok i

/-- A row that uses `INST` only. -/
def instOnly (c : RawCmd) (i : Instr) : Except DecodeError Instr :=
  if c.xtd then .error .unusedXtd else if c.rtr then .error .unusedRtr else .ok i

/-- A row that uses `XTD` and `RTR` only. -/
def frameFlags (c : RawCmd) (i : Instr) : Except DecodeError Instr :=
  if c.inst then .error .unusedInst else .ok i

/-- A row that uses `INST` and `XTD` only. -/
def instXtd (c : RawCmd) (i : Instr) : Except DecodeError Instr :=
  if c.rtr then .error .unusedRtr else .ok i

/-- The command map (30_encoding.md R91) on the fields of a word. -/
def decodeRaw (c : RawCmd) : Except DecodeError Instr :=
  if c.reserved ≠ 0 then .error .reservedBits
  else
    match c.opc.toNat with
    | 0x01 => noFlags c .dlcEnc
    | 0x02 => noFlags c .dlcDec
    | 0x03 => frameFlags c (.frameEnc c.xtd c.rtr)
    | 0x04 => noFlags c .frameDec
    | 0x05 => .ok (.write (.ofBit c.inst) c.xtd c.rtr)
    | 0x06 => instOnly c (.read (.ofBit c.inst))
    | 0x07 => instXtd c (.filterProg (.ofBit c.inst) c.xtd)
    | 0x08 => .ok (.accept (.ofBit c.inst) c.xtd c.rtr)
    | 0x09 => instOnly c (.txFree (.ofBit c.inst))
    | 0x10 => instOnly c (.init (.ofBit c.inst))
    | 0x11 => instOnly c (.deinit (.ofBit c.inst))
    | 0x12 => instOnly c (.setBitTiming (.ofBit c.inst))
    | 0x13 => instOnly c (.rxErr (.ofBit c.inst))
    | 0x14 => instOnly c (.txErr (.ofBit c.inst))
    | _ => .error .reservedOpcode

/-- Decode a command word. Total: every word is a command or is rejected by name (30_encoding.md R93, R94). -/
def decode (w : Word) : Except DecodeError Instr := decodeRaw (.ofWord w)

/-- The decoder on an opcode-table word of `nbits` bits: the command is one 32-bit port, so there is nothing to lay out
in memory; bits above `nbits` are 0, and a word that does not fit the port is no command. -/
def decodeTableWord (nbits w : Nat) : Option Instr :=
  let v := w % 2 ^ nbits
  if v < 2 ^ 32 then
    match decode (BitVec.ofNat 32 v) with
    | .ok i => some i
    | .error _ => none
  else none

/-! ### Encoding -/

/-- The fields of a row's word with the flags it uses. -/
def rawOf (opc : BitVec 8) (inst xtd rtr : Bool) : RawCmd :=
  { reserved := 0, rtr := rtr, xtd := xtd, inst := inst, opc := opc }

/-- The fields of an instruction's command word (30_encoding.md R91). -/
def Instr.raw : Instr → RawCmd
  | .dlcEnc => rawOf 0x01 false false false
  | .dlcDec => rawOf 0x02 false false false
  | .frameEnc xtd rtr => rawOf 0x03 false xtd rtr
  | .frameDec => rawOf 0x04 false false false
  | .write i xtd rtr => rawOf 0x05 i.toBit xtd rtr
  | .read i => rawOf 0x06 i.toBit false false
  | .filterProg i xtd => rawOf 0x07 i.toBit xtd false
  | .accept i xtd rtr => rawOf 0x08 i.toBit xtd rtr
  | .txFree i => rawOf 0x09 i.toBit false false
  | .init i => rawOf 0x10 i.toBit false false
  | .deinit i => rawOf 0x11 i.toBit false false
  | .setBitTiming i => rawOf 0x12 i.toBit false false
  | .rxErr i => rawOf 0x13 i.toBit false false
  | .txErr i => rawOf 0x14 i.toBit false false

/-- The command word of an instruction. -/
def encode (i : Instr) : Word := i.raw.toWord

/-! ### The opcode table as data (spec/opcode_table.json) -/

/-- A row's `match` and `mask`. -/
structure OpcodeRow where
  pattern : Word
  mask : Word
  deriving DecidableEq, Repr

/-- The row an instruction belongs to. -/
def Instr.row : Instr → OpcodeRow
  | .dlcEnc => { pattern := 0x00000001, mask := 0xFFFFFFFF }
  | .dlcDec => { pattern := 0x00000002, mask := 0xFFFFFFFF }
  | .frameEnc _ _ => { pattern := 0x00000003, mask := 0xFFFFF9FF }
  | .frameDec => { pattern := 0x00000004, mask := 0xFFFFFFFF }
  | .write _ _ _ => { pattern := 0x00000005, mask := 0xFFFFF8FF }
  | .read _ => { pattern := 0x00000006, mask := 0xFFFFFEFF }
  | .filterProg _ _ => { pattern := 0x00000007, mask := 0xFFFFFCFF }
  | .accept _ _ _ => { pattern := 0x00000008, mask := 0xFFFFF8FF }
  | .txFree _ => { pattern := 0x00000009, mask := 0xFFFFFEFF }
  | .init _ => { pattern := 0x00000010, mask := 0xFFFFFEFF }
  | .deinit _ => { pattern := 0x00000011, mask := 0xFFFFFEFF }
  | .setBitTiming _ => { pattern := 0x00000012, mask := 0xFFFFFEFF }
  | .rxErr _ => { pattern := 0x00000013, mask := 0xFFFFFEFF }
  | .txErr _ => { pattern := 0x00000014, mask := 0xFFFFFEFF }

end Sys2Proof
end

