-- ==== Sys2Proof/Machine/State.lean ====
section
/-! DEFINITION. The state of the block (10_state.md R20 to R41), the reasons a step can stop, and the state after reset
(70_reset_and_hazards.md R330). -/

namespace Sys2Proof.Machine

/-! ### Host port -/

/-- Which operand fields the host has written since reset (10_state.md R22). `TXBUF` keeps one mark per byte, because
41_frame_encoder.md R140 refuses on unwritten bytes below `TXLEN`. -/
structure Written where
  arg0 : Bool
  arg1 : Bool
  arg2 : Bool
  arg3 : Bool
  txlen : Bool
  txbuf : Vector Bool 64
  deriving DecidableEq, Repr

/-- The host command port (10_state.md R20). -/
structure Port where
  cmd : Word
  arg0 : Word
  arg1 : Word
  arg2 : Word
  arg3 : Word
  txbuf : Vector Byte 64
  txlen : Fin 65
  res0 : Word
  res1 : Word
  rxbuf : Vector Byte 8
  rxlen : Fin 9
  status : BitVec 8
  written : Written
  deriving DecidableEq, Repr

/-- What the host writes when it issues a command (10_state.md R20): the command word and the operand fields it writes
with it. A field left `none` keeps its value; `txbuf` is written from byte 0 on. -/
structure Issue where
  cmd : Word
  arg0 : Option Word
  arg1 : Option Word
  arg2 : Option Word
  arg3 : Option Word
  txbuf : Option (List Byte)
  txlen : Option (Fin 65)
  deriving DecidableEq, Repr

/-! ### Instance records -/

/-- Lifecycle state (10_state.md R24). -/
inductive Life where
  | uninitialized
  | configured
  | stopped
  | running
  | halted
  deriving DecidableEq, Repr

/-- A transmit element (10_state.md R31). -/
structure TxElement where
  t0 : Word
  t1 : Word
  data : List Byte
  deriving DecidableEq, Repr

/-- A TX event (10_state.md R32). -/
structure TxEvent where
  t0 : Word
  t1 : Word
  deriving DecidableEq, Repr

/-- A receive entry (10_state.md R33). -/
structure RxEntry where
  r0 : Word
  r1 : Word
  data : List Byte
  deriving DecidableEq, Repr

/-- The two fatal kinds (60_exceptions.md R305). -/
inductive FatalKind where
  | configurationFault
  | hardwareFault
  deriving DecidableEq, Repr

/-- A recorded fatal fault (10_state.md R35). -/
structure FatalRecord where
  kind : FatalKind
  code : Word
  deriving DecidableEq, Repr

/-- The record of one controller instance (10_state.md R23). Queues are listed oldest first. `recRaw` and `tecRaw` are
the raw counters `rec` and `tec` (R34). -/
structure InstState where
  life : Life
  timing : Timing
  cfg : Cfg
  gfp : Gfp
  xidam : BitVec 29
  sft : Vector StdFilter 128
  xft : Vector ExtFilter 64
  txq : List TxElement
  tef : List TxEvent
  rxf0 : List RxEntry
  recRaw : Nat
  tecRaw : Nat
  fatal : Option FatalRecord
  deriving DecidableEq, Repr

/-! ### Model outcomes, hooks, bus -/

/-- The reasons of a refusal (60_exceptions.md R309). -/
inductive RefuseReason where
  | illegalCommand
  | unwrittenOperand
  | unsuppliedBytes
  | notRunning
  | alreadyInitialized
  deriving DecidableEq, Repr

/-- A call of a board-support hook (44_controller_context.md R246, R247). -/
inductive HookEvent where
  | enablePeripheralClock
  | disablePeripheralClock
  | configurePins (i : InstId)
  | releasePins (i : InstId)
  | enableInterrupt (i : InstId)
  | disableInterrupt (i : InstId)
  | reportFatal (kind : FatalKind) (code : Word)
  deriving DecidableEq, Repr

/-- A frame on a bus (45_bus_agent.md R271). The identifier's range is its type's. -/
structure BusFrame where
  ident : Ident
  rtr : Bool
  dlc : BitVec 4
  data : List Byte
  deriving DecidableEq, Repr

/-- One turn of an agent (00_scope.md R18): the host issues a command, or a bus agent takes a step. -/
inductive Turn where
  | host (c : Issue)
  | busTx (i : InstId)
  | busRx (i : InstId) (bf : BusFrame)
  deriving DecidableEq, Repr

/-! ### The state -/

/-- The whole state. `params`, `agenda` and `turnNo` are the model's own fields (logs 3, 1, 8); every other field is
the spec's. -/
structure State where
  params : Params
  port : Port
  inst0 : InstState
  inst1 : InstState
  clkRef : Nat
  clkOn : Bool
  undef : Bool
  undefLength : Option Nat
  refused : Bool
  refuseReason : Option RefuseReason
  hooks : List HookEvent
  emitted : List (InstId × BusFrame)
  hostPos : Nat
  agenda : List Turn
  turnNo : Nat
  deriving DecidableEq, Repr

/-- Why a step stops. All three are raised by `step` alone, when the agenda gives the host a turn after its run has
stopped; each is safe (the spec gives the host no further step). -/
inductive Fault where
  /-- A fatal fault is recorded: "the host has no further step" (60_exceptions.md R306). Safe. -/
  | hostHalted
  /-- The sticky `undef` flag is set: "the host has no further step" (60_exceptions.md R307). Safe. -/
  | hostUndefined
  /-- The sticky `refused` flag is set: "the host has no further step" (60_exceptions.md R309). Safe. -/
  | hostRefused
  deriving DecidableEq, Repr

/-- Why an instruction has no meaning in this model. -/
inductive Refusal where
  /-- Raised by an arm of `exec` for an instruction not modelled yet (no arm raises it). Safe. -/
  | notModelled (mnemonic : String)
  deriving DecidableEq, Repr

/-- The outcome of a command or a step. -/
abbrev Result := Host.Outcome State Fault Refusal

/-! ### Reset -/

/-- No operand field is written (10_state.md R22). -/
def Written.reset : Written :=
  { arg0 := false, arg1 := false, arg2 := false, arg3 := false, txlen := false
    txbuf := Vector.replicate 64 false }

/-- The port after reset. The spec leaves every field unspecified; the values are DESIGN CHOICE (log 6). -/
def Port.reset : Port :=
  { cmd := 0, arg0 := 0, arg1 := 0, arg2 := 0, arg3 := 0
    txbuf := Vector.replicate 64 0, txlen := 0
    res0 := 0, res1 := 0, rxbuf := Vector.replicate 8 0, rxlen := 0, status := 0
    written := .reset }

/-- An instance after reset (70_reset_and_hazards.md R330). `timing`, `cfg`, `gfp`, the filter tables and the raw
counters are unspecified there; their values are DESIGN CHOICE (log 7). -/
def InstState.reset : InstState :=
  { life := .uninitialized
    timing := { prescaler := 0, seg1 := 0, seg2 := 0, sjw := 0 }
    cfg :=
      { frameFormat := .classic, mode := .normal, autoRetransmission := false, protocolException := false
        stdFilters := 0, extFilters := 0, rxFifo0Depth := 0, txQueueDepth := 0, txEventDepth := 0 }
    gfp := { anfs := .acceptFifo0, anfe := .acceptFifo0, rrfs := false, rrfe := false }
    xidam := 0x1FFFFFFF
    sft := Vector.replicate 128 .disabled
    xft := Vector.replicate 64 .disabled
    txq := [], tef := [], rxf0 := []
    recRaw := 0, tecRaw := 0
    fatal := none }

/-- The state after reset (70_reset_and_hazards.md R330), with the parameters at their defaults and nothing scheduled. -/
def State.reset : State :=
  { params := Config.defaults
    port := .reset
    inst0 := .reset
    inst1 := .reset
    clkRef := 0, clkOn := false
    undef := false, undefLength := none
    refused := false, refuseReason := none
    hooks := [], emitted := [], hostPos := 0
    agenda := [], turnNo := 0 }

end Sys2Proof.Machine
end

