-- ==== Sys2Proof/Machine/Codec.lean ====
section
/-! DEFINITION. The pure codec: the DLC table (40_dlc_table.md), the header, filter and policy words of
`Layout = FDCAN_H7` (30_encoding.md R80 to R88), the encode function (41_frame_encoder.md R141) and the decode function
(42_frame_decoder.md R171). -/

namespace Sys2Proof.Machine

/-! ### DLC table -/

/-- `BYTES_TO_DLC` (40_dlc_table.md R120); no value outside `LEN_SET` (R124). -/
def bytesToDlc (n : Nat) : Option (BitVec 4) :=
  match n with
  | 0 => some 0
  | 1 => some 1
  | 2 => some 2
  | 3 => some 3
  | 4 => some 4
  | 5 => some 5
  | 6 => some 6
  | 7 => some 7
  | 8 => some 8
  | 12 => some 9
  | 16 => some 10
  | 20 => some 11
  | 24 => some 12
  | 32 => some 13
  | 48 => some 14
  | 64 => some 15
  | _ => none

/-- `DLC_TO_BYTES` (40_dlc_table.md R120), total (R125). -/
def dlcToBytes (c : BitVec 4) : Nat :=
  match c.toNat with
  | 9 => 12
  | 10 => 16
  | 11 => 20
  | 12 => 24
  | 13 => 32
  | 14 => 48
  | 15 => 64
  | k => k

/-- `classic_bytes` (40_dlc_table.md R125): the data bytes a classic frame carries on the bus. -/
def classicBytes (c : BitVec 4) : Nat := min (dlcToBytes c) 8

/-! ### Identifiers -/

/-- Mask a 32-bit identifier to its type's width (41_frame_encoder.md R142). -/
def identOf (xtd : Bool) (id : Word) : Ident := if xtd then .ext (field id 0 29) else .std (field id 0 11)

/-- The identifier-type tag `XTD` (30_encoding.md R88). -/
def identXtd : Ident → Bool
  | .std _ => false
  | .ext _ => true

/-- The identifier as a 32-bit word, zero-extended. -/
def identWord : Ident → Word
  | .std id => placed id 0
  | .ext id => placed id 0

/-! ### Header words (30_encoding.md R81 to R83) -/

/-- The fields of a transmit header (30_encoding.md R80). `ident` carries `ID` and `XTD`. -/
structure TxHeader where
  ident : Ident
  rtr : Bool
  esi : Bool
  dlc : BitVec 4
  brs : Bool
  fdf : Bool
  efc : Bool
  mm : BitVec 8
  deriving DecidableEq, Repr

/-- The fields of a receive header (30_encoding.md R83). -/
structure RxHeader where
  ident : Ident
  rtr : Bool
  esi : Bool
  dlc : BitVec 4
  brs : Bool
  fdf : Bool
  anmf : Bool
  fidx : BitVec 7
  rxts : BitVec 16
  deriving DecidableEq, Repr

/-- The identifier field in bits 28:0: an extended identifier at 28:0, a standard one at 28:18 (30_encoding.md R81). -/
def identField : Ident → Word
  | .std id => placed id 18
  | .ext id => placed id 0

/-- The first header word of both directions (30_encoding.md R81, R83). -/
def idWord (L : Layout) (id : Ident) (rtr esi : Bool) : Word :=
  match L with
  | .fdcanH7 => flagBit esi 31 ||| flagBit (identXtd id) 30 ||| flagBit rtr 29 ||| identField id

/-- The identifier of a first header word; bits 17:0 are ignored when it is standard (42_frame_decoder.md R172). -/
def wordIdent (L : Layout) (w : Word) : Ident :=
  match L with
  | .fdcanH7 => if w.getLsbD 30 then .ext (field w 0 29) else .std (field w 18 11)

/-- The `RTR` tag of a first header word. -/
def wordRtr (L : Layout) (w : Word) : Bool :=
  match L with
  | .fdcanH7 => w.getLsbD 29

/-- The `ESI` tag of a first header word. -/
def wordEsi (L : Layout) (w : Word) : Bool :=
  match L with
  | .fdcanH7 => w.getLsbD 31

/-- The length code of a second header word, bits 19:16 in both directions (30_encoding.md R82, R83). -/
def wordDlc (L : Layout) (w : Word) : BitVec 4 :=
  match L with
  | .fdcanH7 => field w 16 4

/-- The TX-event request of `T1`, bit 23 (30_encoding.md R82). -/
def wordEfc (L : Layout) (w : Word) : Bool :=
  match L with
  | .fdcanH7 => w.getLsbD 23

/-- `T0` of a header (30_encoding.md R81). -/
def TxHeader.t0 (L : Layout) (h : TxHeader) : Word := idWord L h.ident h.rtr h.esi

/-- `T1` of a header (30_encoding.md R82). -/
def TxHeader.t1 (L : Layout) (h : TxHeader) : Word :=
  match L with
  | .fdcanH7 => placed h.mm 24 ||| flagBit h.efc 23 ||| flagBit h.fdf 21 ||| flagBit h.brs 20 ||| placed h.dlc 16

/-- The header two transmit words stand for. -/
def TxHeader.ofWords (L : Layout) (t0 t1 : Word) : TxHeader :=
  match L with
  | .fdcanH7 =>
    { ident := wordIdent L t0, rtr := wordRtr L t0, esi := wordEsi L t0
      dlc := wordDlc L t1, brs := t1.getLsbD 20, fdf := t1.getLsbD 21, efc := wordEfc L t1, mm := field t1 24 8 }

/-- `R0` of a header (30_encoding.md R83: the layout of `T0`). -/
def RxHeader.r0 (L : Layout) (h : RxHeader) : Word := idWord L h.ident h.rtr h.esi

/-- `R1` of a header (30_encoding.md R83). -/
def RxHeader.r1 (L : Layout) (h : RxHeader) : Word :=
  match L with
  | .fdcanH7 =>
    flagBit h.anmf 31 ||| placed h.fidx 24 ||| flagBit h.fdf 21 ||| flagBit h.brs 20 ||| placed h.dlc 16
      ||| placed h.rxts 0

/-- The header two receive words stand for. -/
def RxHeader.ofWords (L : Layout) (r0 r1 : Word) : RxHeader :=
  match L with
  | .fdcanH7 =>
    { ident := wordIdent L r0, rtr := wordRtr L r0, esi := wordEsi L r0
      dlc := wordDlc L r1, brs := r1.getLsbD 20, fdf := r1.getLsbD 21
      anmf := r1.getLsbD 31, fidx := field r1 24 7, rxts := field r1 0 16 }

/-- Data word `w` of an element: `DB(4w+b)` in bits `8b+7 : 8b` (20_memory.md R62). Bytes the element does not hold are
taken as 0 (log 23). -/
def dataWord (data : List Byte) (w : Nat) : Word :=
  placed (data[4 * w]?.getD 0) 0 ||| placed (data[4 * w + 1]?.getD 0) 8 ||| placed (data[4 * w + 2]?.getD 0) 16
    ||| placed (data[4 * w + 3]?.getD 0) 24

/-! ### Filter and policy words (30_encoding.md R85 to R87) -/

/-- `S0` of a standard slot (30_encoding.md R85). -/
def stdWord (L : Layout) (f : StdFilter) : Word :=
  match L, f with
  | .fdcanH7, .disabled => 0x00000000
  | .fdcanH7, .mask fid fmask => 0x88000000 ||| placed fid 16 ||| placed fmask 0

/-- The slot value of an `S0` word: disabled when `SFEC = 000`, a mask filter for the one combination the block writes,
none for the combinations it never writes (30_encoding.md R85). -/
def stdOfWord (L : Layout) (w : Word) : Option StdFilter :=
  match L with
  | .fdcanH7 =>
    if field w 27 3 = 0 then some .disabled
    else if field w 27 5 = 0b10001 ∧ field w 11 5 = 0 then some (.mask (field w 16 11) (field w 0 11))
    else none

/-- `F0` of an extended slot (30_encoding.md R86). -/
def extWord0 (L : Layout) (f : ExtFilter) : Word :=
  match L, f with
  | .fdcanH7, .disabled => 0x00000000
  | .fdcanH7, .mask fid _ => 0x20000000 ||| placed fid 0

/-- `F1` of an extended slot (30_encoding.md R86). -/
def extWord1 (L : Layout) (f : ExtFilter) : Word :=
  match L, f with
  | .fdcanH7, .disabled => 0x00000000
  | .fdcanH7, .mask _ fmask => 0x80000000 ||| placed fmask 0

/-- The slot value of `F0` and `F1` (30_encoding.md R86). -/
def extOfWords (L : Layout) (f0 f1 : Word) : Option ExtFilter :=
  match L with
  | .fdcanH7 =>
    if field f0 29 3 = 0 then some .disabled
    else if field f0 29 3 = 1 ∧ field f1 29 3 = 0b100 then some (.mask (field f0 0 29) (field f1 0 29))
    else none

/-- The two-bit code of a non-matching policy (30_encoding.md R87). -/
def nonMatchCode : NonMatch → BitVec 2
  | .acceptFifo0 => 0b00
  | .acceptFifo1 => 0b01
  | .reject => 0b10

/-- The policy a two-bit code stands for: 10 and 11 reject (30_encoding.md R87). -/
def nonMatchOf (c : BitVec 2) : NonMatch :=
  if c = 0b00 then .acceptFifo0 else if c = 0b01 then .acceptFifo1 else .reject

/-- The global filter word `GFC` (30_encoding.md R87). -/
def gfcWord (L : Layout) (g : Gfp) : Word :=
  match L with
  | .fdcanH7 => placed (nonMatchCode g.anfs) 4 ||| placed (nonMatchCode g.anfe) 2 ||| flagBit g.rrfs 1 ||| flagBit g.rrfe 0

/-- The policy a `GFC` word stands for (30_encoding.md R87). -/
def gfpOfWord (L : Layout) (w : Word) : Gfp :=
  match L with
  | .fdcanH7 =>
    { anfs := nonMatchOf (field w 4 2), anfe := nonMatchOf (field w 2 2), rrfs := w.getLsbD 1, rrfe := w.getLsbD 0 }

/-! ### Encode (41_frame_encoder.md R141) -/

/-- What `enc` gives. -/
inductive EncResult where
  | undefinedLength (n : Nat)
  | lengthRejected (n : Nat)
  | header (h : TxHeader)
  deriving DecidableEq, Repr

/-- The encode function (41_frame_encoder.md R141, with the constants of R143). -/
def enc (p : Params) (id : Word) (xtd rtr : Bool) (payload : List Byte) : EncResult :=
  match bytesToDlc payload.length with
  | none => .undefinedLength payload.length
  | some dlc =>
    if 8 < payload.length ∧ p.classicOverlength = .reject then .lengthRejected payload.length
    else
      .header
        { ident := identOf xtd id, rtr := rtr, esi := false, dlc := dlc, brs := false, fdf := false, efc := true, mm := 0 }

/-! ### Decode (42_frame_decoder.md R171) -/

/-- The generic CAN frame (00_scope.md R16). -/
structure Frame where
  id : Word
  isExtended : Bool
  isRemote : Bool
  payload : List Byte
  deriving DecidableEq, Repr

/-- What `dec` gives. -/
inductive DecResult where
  | overlength (n : Nat)
  | frame (f : Frame)
  deriving DecidableEq, Repr

/-- The payload length `dec` delivers: clamped to `MAX_RX_PAYLOAD` (42_frame_decoder.md R173). -/
def deliveredBytes (c : BitVec 4) : Nat := min (dlcToBytes c) Config.maxRxPayload

/-- The decode function (42_frame_decoder.md R171). -/
def dec (p : Params) (r0 r1 : Word) (data : List Byte) : DecResult :=
  if Config.maxRxPayload < dlcToBytes (wordDlc p.layout r1) ∧ p.rxOverlength = .fault then
    .overlength (dlcToBytes (wordDlc p.layout r1))
  else
    .frame
      { id := identWord (wordIdent p.layout r0)
        isExtended := identXtd (wordIdent p.layout r0)
        isRemote := wordRtr p.layout r0
        payload := data.take (deliveredBytes (wordDlc p.layout r1)) }

/-- `RES1` of a decoded frame (42_frame_decoder.md R170): bit 0 extended, bit 1 remote. -/
def frameFlagsWord (f : Frame) : Word := flagBit f.isExtended 0 ||| flagBit f.isRemote 1

end Sys2Proof.Machine
end

