-- ==== Sys2Proof/Machine/Flags.lean ====
section
/-! DEFINITION. The result code, and the two sticky model flags with what each records (10_state.md R37,
60_exceptions.md R302, R307 to R309). The block has no condition codes (10_state.md R36). -/

namespace Sys2Proof.Machine

/-- The result codes of 60_exceptions.md R302. -/
inductive Status where
  | ok
  | noFrame
  | txFull
  | hwFault
  | lengthRejected
  | rxOverlength
  deriving DecidableEq, Repr

/-- The numbers of 60_exceptions.md R302. -/
def statusCode : Status → BitVec 8
  | .ok => 0x00
  | .noFrame => 0x01
  | .txFull => 0x02
  | .hwFault => 0x03
  | .lengthRejected => 0x04
  | .rxOverlength => 0x05

/-- `STATUS <- st`. -/
def State.setStatus (st : Status) (s : State) : State := { s with port := { s.port with status := statusCode st } }

/-- `RES0 <- v`. -/
def State.setRes0 (v : Word) (s : State) : State := { s with port := { s.port with res0 := v } }

/-- `RES1 <- v`. -/
def State.setRes1 (v : Word) (s : State) : State := { s with port := { s.port with res1 := v } }

/-- `refuse(reason)` (60_exceptions.md R309): sets the sticky flag and records the reason, nothing else. -/
def State.refuse (why : RefuseReason) (s : State) : State := { s with refused := true, refuseReason := some why }

/-- `raise UndefinedLength(n)` (60_exceptions.md R307, R308): sets the sticky flag and records `n`, nothing else. -/
def State.raiseUndefined (n : Nat) (s : State) : State := { s with undef := true, undefLength := some n }

/-- Why the host has no further step, if it has none (60_exceptions.md R306, R307, R309). -/
def State.hostStop? (s : State) : Option Fault :=
  if s.inst0.fatal.isSome || s.inst1.fatal.isSome then some .hostHalted
  else if s.undef then some .hostUndefined
  else if s.refused then some .hostRefused
  else none

end Sys2Proof.Machine
end

