-- ==== Sys2Proof/Machine/Operands.lean ====
section
/-! DEFINITION. Operand assembly: how the host writes the operand ports (10_state.md R20), how a command reads them
(30_encoding.md R92), and the refusal of fields never written (10_state.md R22). -/

namespace Sys2Proof.Machine

/-! ### The host writes -/

/-- Bytes written from position 0 on; the rest of the buffer keeps its values. -/
def overwrite {n : Nat} (buf : Vector Byte n) (bytes : List Byte) : Vector Byte n :=
  Vector.ofFn fun j => bytes[j.val]?.getD buf[j]

/-- The marks of the bytes a write of `k` bytes covers are set. -/
def markWritten {n : Nat} (marks : Vector Bool n) (k : Nat) : Vector Bool n :=
  Vector.ofFn fun j => decide (j.val < k) || marks[j]

/-- The host writes the fields of an issue and the command word (10_state.md R20). -/
def Port.present (c : Issue) (p : Port) : Port :=
  { p with
    cmd := c.cmd
    arg0 := c.arg0.getD p.arg0
    arg1 := c.arg1.getD p.arg1
    arg2 := c.arg2.getD p.arg2
    arg3 := c.arg3.getD p.arg3
    txbuf := overwrite p.txbuf (c.txbuf.getD [])
    txlen := c.txlen.getD p.txlen
    written :=
      { arg0 := p.written.arg0 || c.arg0.isSome
        arg1 := p.written.arg1 || c.arg1.isSome
        arg2 := p.written.arg2 || c.arg2.isSome
        arg3 := p.written.arg3 || c.arg3.isSome
        txlen := p.written.txlen || c.txlen.isSome
        txbuf := markWritten p.written.txbuf (c.txbuf.getD []).length } }

/-- The host presents a command. -/
def State.present (c : Issue) (s : State) : State := { s with port := s.port.present c }

/-! ### A command reads: none stands for a field never written -/

/-- `ARG0`. -/
def State.arg0? (s : State) : Option Word := if s.port.written.arg0 then some s.port.arg0 else none

/-- `ARG1`. -/
def State.arg1? (s : State) : Option Word := if s.port.written.arg1 then some s.port.arg1 else none

/-- `ARG2`. -/
def State.arg2? (s : State) : Option Word := if s.port.written.arg2 then some s.port.arg2 else none

/-- `ARG3`. -/
def State.arg3? (s : State) : Option Word := if s.port.written.arg3 then some s.port.arg3 else none

/-- `TXBUF[0:TXLEN]`, when `TXLEN` and every byte below it were written (41_frame_encoder.md R140). -/
def State.payload? (s : State) : Option (List Byte) :=
  if s.port.written.txlen && (s.port.written.txbuf.toList.take s.port.txlen.val).all id then
    some (s.port.txbuf.toList.take s.port.txlen.val)
  else none

/-- `ARG0..ARG3` as prescaler, seg1, seg2, sjw (44_controller_context.md R231, R240). -/
def State.timing? (s : State) : Option Timing :=
  match s.arg0?, s.arg1?, s.arg2?, s.arg3? with
  | some p, some t1, some t2, some j =>
    some { prescaler := p.toNat, seg1 := t1.toNat, seg2 := t2.toNat, sjw := j.toNat }
  | _, _, _, _ => none

/-! ### A command delivers a frame -/

/-- `RXLEN <- len(payload); RXBUF[0:RXLEN] <- payload` (42_frame_decoder.md R170). -/
def Port.deliver (payload : List Byte) (p : Port) : Port :=
  { p with rxlen := Fin.ofNat 9 payload.length, rxbuf := overwrite p.rxbuf payload }

end Sys2Proof.Machine
end

