-- ==== Sys2Proof/Machine/Ops.lean ====
section
/-! DEFINITION. The named operations the meanings share: instance access, queues, draws, hooks, the fatal fault
(60_exceptions.md R305), the delivery of a decoded frame, and what a turn starts with. -/

namespace Sys2Proof.Machine

/-! ### Instances (10_state.md R23, R40) -/

/-- `inst[i]`. -/
def State.inst (s : State) : InstId → InstState
  | .i0 => s.inst0
  | .i1 => s.inst1

/-- `inst[i] <- r`. -/
def State.setInst (i : InstId) (r : InstState) (s : State) : State :=
  match i with
  | .i0 => { s with inst0 := r }
  | .i1 => { s with inst1 := r }

/-- Is instance `i` running? Every instance command but INIT asks this (41_frame_encoder.md R153). -/
def State.running (s : State) (i : InstId) : Bool := (s.inst i).life == .running

/-! ### Queues (00_scope.md R13, 20_memory.md R64) -/

/-- `push(q, e)`: at the tail. -/
def push {α : Type} (q : List α) (e : α) : List α := q ++ [e]

/-- `fill(q)`. -/
def fill {α : Type} (q : List α) : Nat := q.length

/-- Append to the transmit queue. -/
def InstState.pushTx (e : TxElement) (r : InstState) : InstState := { r with txq := push r.txq e }

/-- Remove the head of receive FIFO 0. -/
def InstState.popRx (r : InstState) : InstState := { r with rxf0 := r.rxf0.tail }

/-! ### Draws (00_scope.md R13, log 8) -/

/-- Draw number `k` of this turn, a truth value. -/
def State.drawBool (s : State) (k : Nat) : Bool := Config.freeBool s.turnNo k

/-- Draw number `k` of this turn, a word. -/
def State.drawWord (s : State) (k : Nat) : Word := Config.freeWord s.turnNo k

/-! ### Hooks (44_controller_context.md R246) and the fatal fault -/

/-- Record a hook call. -/
def State.hook (e : HookEvent) (s : State) : State := { s with hooks := push s.hooks e }

/-- The fatal code `FILTER_INDEX` (60_exceptions.md R305). -/
def codeFilterIndex : Word := 0x01

/-- The fatal code `TIMING` (60_exceptions.md R305). -/
def codeTiming : Word := 0x02

/-- `fatal(kind, code)` on instance `i` (60_exceptions.md R305, 44_controller_context.md R247): record it, report it
once, halt the instance. What the command had already written stays. -/
def State.raiseFatal (i : InstId) (kind : FatalKind) (code : Word) (s : State) : State :=
  (s.setInst i { s.inst i with fatal := some { kind := kind, code := code }, life := .halted }).hook
    (.reportFatal kind code)

/-! ### Typed results -/

/-- `STATUS <- Ok`, with nothing else to write. -/
def State.done (s : State) : State := s.setStatus .ok

/-- Deliver a decode result to the port (42_frame_decoder.md R170, R180). -/
def State.deliver (r : DecResult) (s : State) : State :=
  match r with
  | .overlength _ => s.setStatus .rxOverlength
  | .frame f =>
    { s with
      port :=
        { s.port.deliver f.payload with res0 := f.id, res1 := frameFlagsWord f, status := statusCode .ok } }

/-! ### The start of a turn -/

/-- A fresh raw counter value of the configured width (10_state.md R34, log 10). -/
def State.drawCounter (s : State) (k : Nat) : Nat := Config.freeNat s.turnNo k % 2 ^ s.params.hwCounterWidth

/-- The raw error counters take new values, chosen by the bus (10_state.md R34, 45_bus_agent.md R276). -/
def State.refreshCounters (s : State) : State :=
  { s with
    inst0 := { s.inst0 with recRaw := s.drawCounter 0, tecRaw := s.drawCounter 1 }
    inst1 := { s.inst1 with recRaw := s.drawCounter 2, tecRaw := s.drawCounter 3 } }

/-- A turn begins: its agenda entry is taken, the draw counter advances, the raw counters change. -/
def State.beginTurn (rest : List Turn) (s : State) : State :=
  State.refreshCounters { s with agenda := rest, turnNo := s.turnNo + 1 }

end Sys2Proof.Machine
end

