-- ==== Sys2Proof/Machine/Filter.lean ====
section
/-! DEFINITION. The acceptance function and FILTER_PROG, ACCEPT (43_filter_table.md R201, R208, R210). -/

namespace Sys2Proof.Machine

/-! ### Programming -/

/-- Write one slot of the standard table (43_filter_table.md R201, R203). -/
def InstState.programStd (k : Nat) (id fmask : Word) (r : InstState) : InstState :=
  { r with sft := r.sft.setIfInBounds k (.mask (field id 0 11) (field fmask 0 11)) }

/-- Write one slot of the extended table (43_filter_table.md R201, R203). -/
def InstState.programExt (k : Nat) (id fmask : Word) (r : InstState) : InstState :=
  { r with xft := r.xft.setIfInBounds k (.mask (field id 0 29) (field fmask 0 29)) }

/-- How many slots the table of an identifier type has (43_filter_table.md R202). -/
def slotCount (xtd : Bool) : Nat := if xtd then Config.nExtFilters else Config.nStdFilters

/-- `FILTER_PROG.i index, id, mask, std|ext` (43_filter_table.md R201). -/
def execFilterProg (i : InstId) (xtd : Bool) (s : State) : Result :=
  match s.arg0?, s.arg1?, s.arg2? with
  | some k, some id, some fmask =>
    if s.running i then
      if slotCount xtd ≤ k.toNat then .next (s.raiseFatal i .configurationFault codeFilterIndex)
      else if xtd then .next (s.setInst i ((s.inst i).programExt k.toNat id fmask)).done
      else .next (s.setInst i ((s.inst i).programStd k.toNat id fmask)).done
    else .next (s.refuse .notRunning)
  | _, _, _ => .next (s.refuse .unwrittenOperand)

/-! ### Acceptance -/

/-- Slot match (43_filter_table.md R209). -/
def stdAccepts (v : BitVec 11) : StdFilter → Bool
  | .disabled => false
  | .mask fid fmask => (v &&& fmask) == (fid &&& fmask)

/-- Slot match (43_filter_table.md R209). -/
def extAccepts (v : BitVec 29) : ExtFilter → Bool
  | .disabled => false
  | .mask fid fmask => (v &&& fmask) == (fid &&& fmask)

/-- The lowest slot of the identifier's table that matches (43_filter_table.md R208, R211). -/
def InstState.firstMatch (r : InstState) : Ident → Option Nat
  | .std v => r.sft.toList.findIdx? (stdAccepts v)
  | .ext v => r.xft.toList.findIdx? (extAccepts (v &&& r.xidam))

/-- What the acceptance function says (43_filter_table.md R208). -/
inductive Verdict where
  | fifo0 (k : Nat)
  | fifo0NoMatch
  | fifo1
  | reject
  deriving DecidableEq, Repr

/-- The policy for remote frames of the identifier's type. -/
def rejectsRemote (g : Gfp) (xtd : Bool) : Bool := if xtd then g.rrfe else g.rrfs

/-- The policy for non-matching frames of the identifier's type. -/
def nonMatchPolicy (g : Gfp) (xtd : Bool) : NonMatch := if xtd then g.anfe else g.anfs

/-- The acceptance function on a masked identifier (43_filter_table.md R208). -/
def InstState.judge (r : InstState) (id : Ident) (rtr : Bool) : Verdict :=
  if rtr && rejectsRemote r.gfp (identXtd id) then .reject
  else
    match r.firstMatch id with
    | some k => .fifo0 k
    | none =>
      match nonMatchPolicy r.gfp (identXtd id) with
      | .acceptFifo0 => .fifo0NoMatch
      | .acceptFifo1 => .fifo1
      | .reject => .reject

/-- `RES0` of ACCEPT: is the frame stored in FIFO 0 (43_filter_table.md R210)? -/
def Verdict.stored : Verdict → Bool
  | .fifo0 _ => true
  | .fifo0NoMatch => true
  | .fifo1 => false
  | .reject => false

/-- `RES1` of ACCEPT: the matching index, or all ones (43_filter_table.md R210). -/
def Verdict.indexWord : Verdict → Word
  | .fifo0 k => BitVec.ofNat 32 k
  | .fifo0NoMatch => 0xFFFFFFFF
  | .fifo1 => 0xFFFFFFFF
  | .reject => 0xFFFFFFFF

/-- Deliver a verdict to the port (43_filter_table.md R210). -/
def State.answer (v : Verdict) (s : State) : State := ((s.setRes0 (flagBit v.stored 0)).setRes1 v.indexWord).done

/-- `ACCEPT.i id std|ext [rtr]` (43_filter_table.md R210). -/
def execAccept (i : InstId) (xtd rtr : Bool) (s : State) : Result :=
  match s.arg0? with
  | none => .next (s.refuse .unwrittenOperand)
  | some id =>
    if s.running i then .next (s.answer ((s.inst i).judge (identOf xtd id) rtr))
    else .next (s.refuse .notRunning)

end Sys2Proof.Machine
end

