-- ==== Sys2Proof/Machine/Bus.lean ====
section
/-! DEFINITION. The bus agent's steps BUS_TX and BUS_RX (45_bus_agent.md R270, R271, R273, R274). They have no command
word (30_encoding.md R97). A turn whose step is not enabled does not happen (log 2). -/

namespace Sys2Proof.Machine

/-- A legal bus frame (45_bus_agent.md R271): a remote frame has no data, a data frame carries `classic_bytes` of its
code. -/
def BusFrame.legal (bf : BusFrame) : Bool := bf.data.length == (if bf.rtr then 0 else classicBytes bf.dlc)

/-- The frame a transmit element goes out as (45_bus_agent.md R270). -/
def TxElement.onBus (L : Layout) (e : TxElement) : BusFrame :=
  { ident := wordIdent L e.t0
    rtr := wordRtr L e.t0
    dlc := wordDlc L e.t1
    data := if wordRtr L e.t0 then [] else e.data.take (classicBytes (wordDlc L e.t1)) }

/-- Log a TX event when the element asks for one; a full TX event FIFO discards it (10_state.md R32). -/
def InstState.logEvent (L : Layout) (e : TxElement) (r : InstState) : InstState :=
  if wordEfc L e.t1 && decide (fill r.tef < Config.tefDepth) then
    { r with tef := push r.tef { t0 := e.t0, t1 := e.t1 } }
  else r

/-- `BUS_TX(i)` (45_bus_agent.md R270). -/
def busTx (i : InstId) (s : State) : State :=
  if s.running i then
    match (s.inst i).txq with
    | [] => s
    | e :: rest =>
      { s.setInst i (InstState.logEvent s.params.layout e { s.inst i with txq := rest }) with
        emitted := push s.emitted (i, e.onBus s.params.layout) }
  else s

/-- The `FIDX` field of a stored frame: the matching slot, or a draw when the policy accepted it. -/
def State.fidxOf (s : State) : Verdict → BitVec 7
  | .fifo0 k => BitVec.ofNat 7 k
  | .fifo0NoMatch => (s.drawWord 0).setWidth 7
  | .fifo1 => (s.drawWord 0).setWidth 7
  | .reject => (s.drawWord 0).setWidth 7

/-- The header of an arriving frame (45_bus_agent.md R273): `RXTS` is a draw. -/
def State.headerOf (s : State) (v : Verdict) (bf : BusFrame) : RxHeader :=
  { ident := bf.ident, rtr := bf.rtr, esi := false, dlc := bf.dlc, brs := false, fdf := false
    anmf := v == .fifo0NoMatch, fidx := s.fidxOf v, rxts := (s.drawWord 1).setWidth 16 }

/-- The receive entry of an arriving frame (45_bus_agent.md R273): the data bytes past the frame's are draws. -/
def State.entryOf (s : State) (v : Verdict) (bf : BusFrame) : RxEntry :=
  { r0 := (s.headerOf v bf).r0 s.params.layout
    r1 := (s.headerOf v bf).r1 s.params.layout
    data := bf.data ++ (List.range (64 - bf.data.length)).map fun j => (s.drawWord (2 + j)).setWidth 8 }

/-- Store an entry in receive FIFO 0 (45_bus_agent.md R273), applying `RX_OVERFLOW` when it is full (R274). -/
def InstState.store (o : RxOverflow) (e : RxEntry) (r : InstState) : InstState :=
  if fill r.rxf0 < Config.rxf0Depth then { r with rxf0 := push r.rxf0 e }
  else
    match o with
    | .dropNew => r
    | .overwrite => { r with rxf0 := push r.rxf0.tail e }

/-- `BUS_RX(i, bf)` (45_bus_agent.md R273). -/
def busRx (i : InstId) (bf : BusFrame) (s : State) : State :=
  if s.running i && bf.legal then
    if ((s.inst i).judge bf.ident bf.rtr).stored then
      s.setInst i ((s.inst i).store s.params.rxOverflow (s.entryOf ((s.inst i).judge bf.ident bf.rtr) bf))
    else s
  else s

end Sys2Proof.Machine
end

