-- ==== Sys2Proof/Machine/Context.lean ====
section
/-! DEFINITION. The configuration sequence, INIT, DEINIT, SET_BIT_TIMING and the error-counter reads
(44_controller_context.md R231 to R251). -/

namespace Sys2Proof.Machine

/-! ### The configuration sequence (44_controller_context.md R232) -/

/-- `CFG_CONST` (10_state.md R26). -/
def cfgConst : Cfg :=
  { frameFormat := .classic, mode := .normal, autoRetransmission := true, protocolException := true
    stdFilters := 128, extFilters := 64, rxFifo0Depth := 64, txQueueDepth := 32, txEventDepth := 32 }

/-- The policy configuration writes (10_state.md R27). -/
def gfpConst : Gfp := { anfs := .reject, anfe := .reject, rrfs := true, rrfe := true }

/-- Is a value positive and inside its range? -/
def positiveIn (r : Range) (v : Nat) : Bool := decide (1 ≤ v) && r.holds v

/-- `valid_timing` (44_controller_context.md R233): every value is at least 1 and inside `TIMING_RANGE`. -/
def validTiming (g : TimingRange) (t : Timing) : Bool :=
  positiveIn g.prescaler t.prescaler && positiveIn g.seg1 t.seg1 && positiveIn g.seg2 t.seg2 && positiveIn g.sjw t.sjw

/-- `RECONFIG_QUEUES` (44_controller_context.md R241): each queue is emptied, or under `EmptyOrKept` emptied exactly
when its draw says so. -/
def State.reconfigureQueues (s : State) (r : InstState) : InstState :=
  match s.params.reconfigQueues with
  | .empty => { r with txq := [], rxf0 := [], tef := [] }
  | .emptyOrKept =>
    { r with
      txq := if s.drawBool 1 then [] else r.txq
      rxf0 := if s.drawBool 2 then [] else r.rxf0
      tef := if s.drawBool 3 then [] else r.tef }

/-- The baseline filters (43_filter_table.md R205). -/
def InstState.baseline (r : InstState) : InstState :=
  { r with sft := r.sft.set 0 (.mask 0 0), xft := r.xft.set 0 (.mask 0 0) }

/-- How `configure` ends. -/
inductive Configured where
  | fatal (s : State)
  | running (s : State)

/-- The hardware failure of 44_controller_context.md R234. -/
def State.configFails (s : State) : Bool := s.params.configMayFail && s.drawBool 0

/-- `configure(s, p, t1, t2, j)` on instance `i` (44_controller_context.md R232). -/
def configure (i : InstId) (t : Timing) (s : State) : Configured :=
  let s1 := s.setInst i { s.inst i with life := .stopped }
  if validTiming s.params.timingRange t then
    let s2 := s1.setInst i { s1.inst i with timing := t, cfg := cfgConst }
    if s.configFails then .fatal (s2.raiseFatal i .hardwareFault (s.drawWord 0))
    else
      let s3 := s2.setInst i (s2.reconfigureQueues { s2.inst i with life := .configured })
      let s4 := s3.setInst i { (s3.inst i).baseline with gfp := gfpConst }
      .running (s4.setInst i { s4.inst i with life := .running })
  else .fatal (s1.raiseFatal i .configurationFault codeTiming)

/-- `STATUS <- Ok` after a configuration that did not end in a fatal fault. -/
def Configured.finish : Configured → State
  | .fatal s => s
  | .running s => s.done

/-! ### Lifecycle commands -/

/-- `unprogrammed()` for the standard slots (44_controller_context.md R231). -/
def State.unprogrammedStd (s : State) : Vector StdFilter 128 :=
  match s.params.unprogrammedSlot with
  | .disabled => Vector.replicate 128 .disabled
  | .arbitrary => Vector.ofFn fun k => Config.freeStdFilter s.turnNo k.val

/-- `unprogrammed()` for the extended slots. -/
def State.unprogrammedExt (s : State) : Vector ExtFilter 64 :=
  match s.params.unprogrammedSlot with
  | .disabled => Vector.replicate 64 .disabled
  | .arbitrary => Vector.ofFn fun k => Config.freeExtFilter s.turnNo k.val

/-- INIT up to its call of `configure` (44_controller_context.md R231): count and enable the clock, call the hooks in
the order of D26, empty the queues, unprogram the filters. -/
def State.bringUp (i : InstId) (s : State) : State :=
  let s1 := State.hook .enablePeripheralClock { s with clkRef := s.clkRef + 1 }
  let s2 := State.hook (.enableInterrupt i) (State.hook (.configurePins i) { s1 with clkOn := true })
  s2.setInst i
    { s2.inst i with
      txq := [], rxf0 := [], tef := []
      sft := s.unprogrammedStd, xft := s.unprogrammedExt
      xidam := 0x1FFFFFFF }

/-- `INIT.i prescaler, seg1, seg2, sjw` (44_controller_context.md R231, R238). -/
def execInit (i : InstId) (s : State) : Result :=
  match s.timing? with
  | none => .next (s.refuse .unwrittenOperand)
  | some t =>
    if (s.inst i).life = .uninitialized then .next (configure i t (s.bringUp i)).finish
    else .next (s.refuse .alreadyInitialized)

/-- The instance record DEINIT leaves (44_controller_context.md R236): queues empty, the unspecified fields free values
(log 9), uninitialized. -/
def State.released (s : State) (i : InstId) : InstState :=
  { s.inst i with
    life := .uninitialized
    txq := [], rxf0 := [], tef := []
    sft := Vector.ofFn fun k => Config.freeStdFilter s.turnNo k.val
    xft := Vector.ofFn fun k => Config.freeExtFilter s.turnNo k.val
    gfp := Config.freeGfp s.turnNo
    timing := Config.freeTiming s.turnNo
    cfg := Config.freeCfg s.turnNo }

/-- Decrement the clock reference, and disable the clock when it reaches 0 (44_controller_context.md R236, R237). -/
def State.releaseClock (s : State) : State :=
  if s.clkRef - 1 = 0 then State.hook .disablePeripheralClock { s with clkRef := s.clkRef - 1, clkOn := false }
  else { s with clkRef := s.clkRef - 1 }

/-- `DEINIT.i` (44_controller_context.md R236). -/
def execDeinit (i : InstId) (s : State) : Result :=
  if s.running i then
    .next
      (State.releaseClock
        (State.hook (.disableInterrupt i) (State.hook (.releasePins i) (s.setInst i (s.released i))))).done
  else .next (s.refuse .notRunning)

/-- `SET_BIT_TIMING.i prescaler, seg1, seg2, sjw` (44_controller_context.md R240). -/
def execSetBitTiming (i : InstId) (s : State) : Result :=
  match s.timing? with
  | none => .next (s.refuse .unwrittenOperand)
  | some t => if s.running i then .next (configure i t s).finish else .next (s.refuse .notRunning)

/-! ### Error counters -/

/-- The low 8 bits of a raw counter, zero-extended (44_controller_context.md R250, R251: truncation, not saturation). -/
def errorCount (raw : Nat) : Word := BitVec.ofNat 32 (raw % 2 ^ 8)

/-- `RX_ERR.i` (44_controller_context.md R250). -/
def execRxErr (i : InstId) (s : State) : Result :=
  if s.running i then .next (s.setRes0 (errorCount (s.inst i).recRaw)).done else .next (s.refuse .notRunning)

/-- `TX_ERR.i` (44_controller_context.md R251). -/
def execTxErr (i : InstId) (s : State) : Result :=
  if s.running i then .next (s.setRes0 (errorCount (s.inst i).tecRaw)).done else .next (s.refuse .notRunning)

end Sys2Proof.Machine
end

