-- ==== Sys2Proof/Machine/Decoder.lean ====
section
/-! DEFINITION. FRAME_DEC and READ (42_frame_decoder.md R170, R180). -/

namespace Sys2Proof.Machine

/-- `FRAME_DEC r0, r1, [data]` (42_frame_decoder.md R170). -/
def execFrameDec (s : State) : Result :=
  match s.arg0?, s.arg1?, s.payload? with
  | some r0, some r1, some data =>
    if data.length < deliveredBytes (wordDlc s.params.layout r1) then .next (s.refuse .unsuppliedBytes)
    else .next (s.deliver (dec s.params r0 r1 data))
  | _, _, _ => .next (s.refuse .unwrittenOperand)

/-- Does a read of a non-empty FIFO fail in this turn (42_frame_decoder.md R182)? -/
def State.readFails (s : State) : Bool := s.params.rxReadMayFail && s.drawBool 0

/-- The failed read (42_frame_decoder.md R182): the head is kept or lost, the code is a draw. -/
def State.failRead (i : InstId) (s : State) : State :=
  ((if s.drawBool 1 then s.setInst i (s.inst i).popRx else s).setRes0 (s.drawWord 0)).setStatus .hwFault

/-- `READ.i` (42_frame_decoder.md R180). -/
def execRead (i : InstId) (s : State) : Result :=
  if s.running i then
    match (s.inst i).rxf0 with
    | [] => .next (s.setStatus .noFrame)
    | e :: _ =>
      if s.readFails then .next (s.failRead i)
      else .next ((s.setInst i (s.inst i).popRx).deliver (dec s.params e.r0 e.r1 e.data))
  else .next (s.refuse .notRunning)

end Sys2Proof.Machine
end

