-- ==== Sys2Proof/Machine/Dlc.lean ====
section
/-! DEFINITION. DLC_ENC and DLC_DEC (40_dlc_table.md R121, R122). -/

namespace Sys2Proof.Machine

/-- `DLC_ENC n` (40_dlc_table.md R121). -/
def execDlcEnc (s : State) : Result :=
  match s.arg0? with
  | none => .next (s.refuse .unwrittenOperand)
  | some n =>
    match bytesToDlc n.toNat with
    | none => .next (s.raiseUndefined n.toNat)
    | some c => .next (s.setRes0 (placed c 0)).done

/-- `DLC_DEC c` (40_dlc_table.md R122). `ARG0[31:4] ≠ 0` is `IllegalCommand` (30_encoding.md R93). -/
def execDlcDec (s : State) : Result :=
  match s.arg0? with
  | none => .next (s.refuse .unwrittenOperand)
  | some a =>
    if field a 4 28 ≠ 0 then .next (s.refuse .illegalCommand)
    else .next (s.setRes0 (BitVec.ofNat 32 (dlcToBytes (field a 0 4)))).done

end Sys2Proof.Machine
end

