-- ==== Sys2Proof/Machine/Encoder.lean ====
section
/-! DEFINITION. FRAME_ENC, WRITE and TX_FREE (41_frame_encoder.md R140, R150, R155). -/

namespace Sys2Proof.Machine

/-- `FRAME_ENC id std|ext [rtr] [payload]` (41_frame_encoder.md R140). -/
def execFrameEnc (xtd rtr : Bool) (s : State) : Result :=
  match s.arg0?, s.payload? with
  | some id, some payload =>
    match enc s.params id xtd rtr payload with
    | .undefinedLength n => .next (s.raiseUndefined n)
    | .lengthRejected _ => .next (s.setStatus .lengthRejected)
    | .header h => .next ((s.setRes0 (h.t0 s.params.layout)).setRes1 (h.t1 s.params.layout)).done
  | _, _ => .next (s.refuse .unwrittenOperand)

/-- Does a submission to a non-full queue fail in this turn (41_frame_encoder.md R152)? -/
def State.submitFails (s : State) : Bool := s.params.txSubmitMayFail && s.drawBool 0

/-- Submit an element to instance `i`'s transmit queue (41_frame_encoder.md R150 from the fill check on, R151, R152). -/
def State.submit (i : InstId) (e : TxElement) (s : State) : State :=
  if fill (s.inst i).txq = Config.txqDepth then (s.setRes0 s.params.errTxFull).setStatus .txFull
  else if s.submitFails then (s.setRes0 (s.drawWord 0)).setStatus .hwFault
  else ((s.setInst i ((s.inst i).pushTx e)).setRes0 0).done

/-- `WRITE.i id std|ext [rtr] [payload]` (41_frame_encoder.md R150). -/
def execWrite (i : InstId) (xtd rtr : Bool) (s : State) : Result :=
  match s.arg0?, s.payload? with
  | some id, some payload =>
    if s.running i then
      match enc s.params id xtd rtr payload with
      | .undefinedLength n => .next (s.raiseUndefined n)
      | .lengthRejected _ => .next (s.setStatus .lengthRejected)
      | .header h => .next (s.submit i { t0 := h.t0 s.params.layout, t1 := h.t1 s.params.layout, data := payload })
    else .next (s.refuse .notRunning)
  | _, _ => .next (s.refuse .unwrittenOperand)

/-- `TX_FREE.i` (41_frame_encoder.md R155). -/
def execTxFree (i : InstId) (s : State) : Result :=
  if s.running i then .next (s.setRes0 (BitVec.ofNat 32 (Config.txqDepth - fill (s.inst i).txq))).done
  else .next (s.refuse .notRunning)

end Sys2Proof.Machine
end

