-- ==== Sys2Proof/Machine/Dispatch.lean ====
section
/-! DEFINITION. One arm per command (30_encoding.md R91). -/

namespace Sys2Proof.Machine

def exec (i : Instr) (s : State) : Host.Outcome State Fault Refusal :=
  match i with
  | .dlcEnc => Sys2Proof.Machine.execDlcEnc s
  | .dlcDec => Sys2Proof.Machine.execDlcDec s
  | .frameEnc xtd rtr => Sys2Proof.Machine.execFrameEnc xtd rtr s
  | .frameDec => Sys2Proof.Machine.execFrameDec s
  | .write inst xtd rtr => Sys2Proof.Machine.execWrite inst xtd rtr s
  | .read inst => Sys2Proof.Machine.execRead inst s
  | .filterProg inst xtd => Sys2Proof.Machine.execFilterProg inst xtd s
  | .accept inst xtd rtr => Sys2Proof.Machine.execAccept inst xtd rtr s
  | .txFree inst => Sys2Proof.Machine.execTxFree inst s
  | .init inst => Sys2Proof.Machine.execInit inst s
  | .deinit inst => Sys2Proof.Machine.execDeinit inst s
  | .setBitTiming inst => Sys2Proof.Machine.execSetBitTiming inst s
  | .rxErr inst => Sys2Proof.Machine.execRxErr inst s
  | .txErr inst => Sys2Proof.Machine.execTxErr inst s

end Sys2Proof.Machine
end

