-- ==== Sys2Proof/Machine/Turn.lean ====
section
/-! DEFINITION. What one turn of an agent does (00_scope.md R18, 20_memory.md R66), and the issue a bare command word
makes. -/

namespace Sys2Proof.Machine

/-- The host's position advances after a typed result and stays after a fatal fault, an undefined-operation fault or a
refusal (10_state.md R21). -/
def advancePos : Result → Result
  | .next s => .next (if s.hostStop?.isSome then s else { s with hostPos := s.hostPos + 1 })
  | .fault f => .fault f
  | .refused r => .refused r

/-- Decode and run the command word in the port; a word that is no command is refused (30_encoding.md R93). -/
def runPort (s : State) : Result :=
  match decode s.port.cmd with
  | .error _ => .next (s.refuse .illegalCommand)
  | .ok i => exec i s

/-- The host issues a command, unless its run has stopped (60_exceptions.md R306, R307, R309). -/
def hostTurn (c : Issue) (s : State) : Result :=
  match s.hostStop? with
  | some f => .fault f
  | none => advancePos (runPort (s.present c))

/-- One turn (00_scope.md R18). -/
def takeTurn (t : Turn) (s : State) : Result :=
  match t with
  | .host c => hostTurn c s
  | .busTx i => .next (busTx i s)
  | .busRx i bf => .next (busRx i bf s)

/-- The issue of a bare command word: operand fields the host has not written are written 0 with it, those it has
written keep their values (log 24). -/
def bareIssue (p : Port) (cmd : Word) : Issue :=
  { cmd := cmd
    arg0 := if p.written.arg0 then none else some 0
    arg1 := if p.written.arg1 then none else some 0
    arg2 := if p.written.arg2 then none else some 0
    arg3 := if p.written.arg3 then none else some 0
    txbuf := none
    txlen := if p.written.txlen then none else some 0 }

end Sys2Proof.Machine
end

