-- ==== Sys2Proof/Machine/Step.lean ====
section
/-! DEFINITION. One step of the machine: the next turn of the agenda, or nothing when no agent moves. -/

namespace Sys2Proof.Machine

/-- One step. With an empty agenda no agent moves and nothing changes (log 2). -/
def step (s : State) : Host.Outcome State Fault Refusal :=
  match s.agenda with
  | [] => .next s
  | t :: rest => takeTurn t (s.beginTurn rest)

/-- `s` with the command word `w` as the host's next turn (log 24). -/
def State.withFetchWord (s : State) (nbits w : Nat) : State :=
  { s with agenda := .host (bareIssue s.port (BitVec.ofNat 32 (w % 2 ^ nbits))) :: s.agenda }

end Sys2Proof.Machine
end

