-- ==== Sys2Proof/Safety.lean ====
section
/-! DEFINITION. What a safe run is, in the terms claims use: a state whose host has not stopped (60_exceptions.md R306),
and the invariant every step keeps. -/

namespace Sys2Proof.Machine

/-- No fatal fault, no undefined operation, no refusal is recorded: the premise of a claim about a run
(60_exceptions.md R306; 10_state.md R37). -/
def State.safe (s : State) : Bool := s.hostStop?.isNone

/-- 1 for an initialized instance, 0 for an uninitialized one (10_state.md R38). -/
def InstState.live (r : InstState) : Nat := if r.life = .uninitialized then 0 else 1

/-- 1 for a halted instance (10_state.md R35). -/
def InstState.haltedCount (r : InstState) : Nat := if r.life = .halted then 1 else 0

/-- Is a hook event a fatal report (44_controller_context.md R247)? -/
def HookEvent.isReport : HookEvent → Bool
  | .reportFatal _ _ => true
  | .enablePeripheralClock => false
  | .disablePeripheralClock => false
  | .configurePins _ => false
  | .releasePins _ => false
  | .enableInterrupt _ => false
  | .disableInterrupt _ => false

/-- A transmit element as the encoder makes it (41_frame_encoder.md R143, R144): its length code is its payload's, its
constant fields hold their constants. -/
structure TxElement.Encoded (L : Layout) (e : TxElement) : Prop where
  dlc : bytesToDlc e.data.length = some (TxHeader.ofWords L e.t0 e.t1).dlc
  esi : (TxHeader.ofWords L e.t0 e.t1).esi = false
  brs : (TxHeader.ofWords L e.t0 e.t1).brs = false
  fdf : (TxHeader.ofWords L e.t0 e.t1).fdf = false
  efc : (TxHeader.ofWords L e.t0 e.t1).efc = true
  mm : (TxHeader.ofWords L e.t0 e.t1).mm = 0

/-- What holds of an instance between transitions. -/
structure InstState.Inv (p : Params) (r : InstState) : Prop where
  /-- 10_state.md R24: `Configured` and `Stopped` are transient. -/
  life : r.life = .uninitialized ∨ r.life = .running ∨ r.life = .halted
  /-- 10_state.md R35. -/
  fatal : r.fatal.isSome = true ↔ r.life = .halted
  /-- 10_state.md R30. -/
  xidam : r.xidam = 0x1FFFFFFF
  /-- 10_state.md R31. -/
  txqFill : r.txq.length ≤ 32
  /-- 10_state.md R32. -/
  tefFill : r.tef.length ≤ 32
  /-- 10_state.md R33. -/
  rxf0Fill : r.rxf0.length ≤ 64
  /-- 41_frame_encoder.md R143, R144. -/
  txqForm : ∀ e ∈ r.txq, e.Encoded p.layout
  /-- 10_state.md R33: an entry holds 64 data bytes. -/
  rxf0Bytes : ∀ e ∈ r.rxf0, e.data.length = 64
  /-- 43_filter_table.md R213: no remote frame reaches receive FIFO 0. -/
  rxf0Data : ∀ e ∈ r.rxf0, wordRtr p.layout e.r0 = false
  /-- 70_reset_and_hazards.md R330, R333. -/
  idle : r.life = .uninitialized → r.txq = [] ∧ r.tef = [] ∧ r.rxf0 = []
  /-- 70_reset_and_hazards.md R332: a running instance holds the fixed configuration and policy. -/
  cfg : r.life = .running → r.cfg = cfgConst
  gfp : r.life = .running → r.gfp = gfpConst
  /-- 44_controller_context.md R233: a running instance's timing was validated. -/
  timing : r.life = .running → validTiming p.timingRange r.timing = true
  /-- 10_state.md R34: the raw counters have `HW_COUNTER_WIDTH` bits. -/
  recWidth : r.recRaw < 2 ^ p.hwCounterWidth
  tecWidth : r.tecRaw < 2 ^ p.hwCounterWidth

/-- What holds of the state between transitions. -/
structure State.Inv (s : State) : Prop where
  inst0 : s.inst0.Inv s.params
  inst1 : s.inst1.Inv s.params
  /-- 10_state.md R38: `clk_ref` counts the initialized instances. -/
  clkRef : s.clkRef = s.inst0.live + s.inst1.live
  /-- 60_exceptions.md R321: the clock is on while an instance is initialized. -/
  clkOn : s.clkOn = decide (s.clkRef ≠ 0)
  /-- 44_controller_context.md R247: one report for each fatal fault. -/
  reports : s.hooks.countP HookEvent.isReport = s.inst0.haltedCount + s.inst1.haltedCount
  /-- 60_exceptions.md R302: the other codes are never written. -/
  status : s.port.status.toNat ≤ 5
  /-- 60_exceptions.md R308: an undefined-operation fault records its byte count. -/
  undef : s.undef = s.undefLength.isSome
  /-- 60_exceptions.md R309: a refusal has its reason. -/
  refused : s.refused = s.refuseReason.isSome

end Sys2Proof.Machine
end

