-- ==== Sys2Proof/Certificates/Slice0/Obligations.lean ====
section
/-! DEFINITION. The statements for the provers. The words in `Sys2Proof.Claims` are written from the spec's own formulas
and tables, apart from the model's definitions, so that a statement says what the spec says. -/

namespace Sys2Proof.Claims

open Sys2Proof.Machine

/-- `LEN_SET` (00_scope.md R17). -/
def lenSet : List Nat := [0, 1, 2, 3, 4, 5, 6, 7, 8, 12, 16, 20, 24, 32, 48, 64]

/-- The table of 40_dlc_table.md R120: byte count, code. -/
def dlcRows : List (Nat × BitVec 4) :=
  [(0, 0), (1, 1), (2, 2), (3, 3), (4, 4), (5, 5), (6, 6), (7, 7), (8, 8), (12, 9), (16, 10), (20, 11), (24, 12),
    (32, 13), (48, 14), (64, 15)]

/-- The command map of 30_encoding.md R91: opcode, and whether it uses `INST`, `XTD` and `RTR`. -/
def commandRows : List (BitVec 8 × Bool × Bool × Bool) :=
  [(0x01, false, false, false), (0x02, false, false, false), (0x03, false, true, true), (0x04, false, false, false),
    (0x05, true, true, true), (0x06, true, false, false), (0x07, true, true, false)]
    ++ [(0x08, true, true, true), (0x09, true, false, false), (0x10, true, false, false), (0x11, true, false, false),
      (0x12, true, false, false), (0x13, true, false, false), (0x14, true, false, false)]

/-- A word the command map makes illegal (30_encoding.md R93): a reserved bit, a reserved opcode or an unused flag. -/
def IllegalWord (w : Word) : Prop :=
  w.extractLsb' 11 21 ≠ 0 ∨ (∀ row ∈ commandRows, row.1 ≠ w.extractLsb' 0 8)
    ∨ ∃ row ∈ commandRows, row.1 = w.extractLsb' 0 8
      ∧ ((w.getLsbD 8 = true ∧ row.2.1 = false) ∨ (w.getLsbD 9 = true ∧ row.2.2.1 = false)
        ∨ (w.getLsbD 10 = true ∧ row.2.2.2 = false))

/-- `bit(b)` (41_frame_encoder.md R141). -/
def bit (b : Bool) : Word := if b then 1 else 0

/-- `T0` by the formula of 30_encoding.md R81 with `ESI = 0`. -/
def headerT0 (id : Word) (xtd rtr : Bool) : Word :=
  (bit xtd <<< 30) ||| (bit rtr <<< 29) ||| (if xtd then id &&& 0x1FFFFFFF else (id &&& 0x7FF) <<< 18)

/-- `T1` by the formula of 30_encoding.md R82 with the constants of 41_frame_encoder.md R143. -/
def headerT1 (c : BitVec 4) : Word := (1 <<< 23) ||| (c.setWidth 32 <<< 16)

/-- The identifier of `R0` (42_frame_decoder.md R171). -/
def decodedId (r0 : Word) : Word := if r0.getLsbD 30 then r0 &&& 0x1FFFFFFF else (r0 >>> 18) &&& 0x7FF

/-- `RES1` of a decoded frame (42_frame_decoder.md R170). -/
def decodedFlags (r0 : Word) : Word := bit (r0.getLsbD 30) ||| (bit (r0.getLsbD 29) <<< 1)

/-- The host wrote `TXLEN` and every byte below it, and the payload is `TXBUF[0:TXLEN]`. -/
def HasPayload (s : State) (data : List Byte) : Prop :=
  s.port.written.txlen = true ∧ (∀ j (h : j < 64), j < s.port.txlen.val → s.port.written.txbuf[j] = true)
    ∧ data = s.port.txbuf.toList.take s.port.txlen.val

/-- The host did not write `TXLEN`, or not every byte below it. -/
def LacksPayload (s : State) : Prop :=
  s.port.written.txlen = false ∨ ∃ j, ∃ h : j < 64, j < s.port.txlen.val ∧ s.port.written.txbuf[j] = false

/-- The host wrote all four timing operands. -/
def HasTiming (s : State) : Prop :=
  s.port.written.arg0 = true ∧ s.port.written.arg1 = true ∧ s.port.written.arg2 = true ∧ s.port.written.arg3 = true

/-- The timing operands (44_controller_context.md R231). -/
def timingArgs (s : State) : Timing :=
  { prescaler := s.port.arg0.toNat, seg1 := s.port.arg1.toNat, seg2 := s.port.arg2.toNat, sjw := s.port.arg3.toNat }

/-- Nothing but the `refused` flag and its reason changes (60_exceptions.md R309). -/
def refusedWith (s : State) (why : RefuseReason) : State := { s with refused := true, refuseReason := some why }

/-- Nothing but the `undef` flag and its byte count changes (60_exceptions.md R307, R308). -/
def undefinedWith (s : State) (n : Nat) : State := { s with undef := true, undefLength := some n }

/-- Only `STATUS` changes. -/
def withStatus (s : State) (c : BitVec 8) : State := { s with port := { s.port with status := c } }

/-- Only `STATUS` and `RES0` change. -/
def withRes0 (s : State) (c : BitVec 8) (v : Word) : State := { s with port := { s.port with res0 := v, status := c } }

/-- Only `STATUS`, `RES0` and `RES1` change. -/
def withRes01 (s : State) (c : BitVec 8) (v w : Word) : State :=
  { s with port := { s.port with res0 := v, res1 := w, status := c } }

/-- A delivered frame: `STATUS = Ok`, `RES0`, `RES1`, `RXLEN` and the first bytes of `RXBUF`; nothing else changes
(42_frame_decoder.md R170). -/
def delivered (s : State) (r0 : Word) (payload : List Byte) : State :=
  { s with
    port :=
      { s.port with
        res0 := decodedId r0, res1 := decodedFlags r0, status := 0x00
        rxlen := Fin.ofNat 9 payload.length
        rxbuf := Vector.ofFn fun j => if h : j.val < payload.length then payload[j.val] else s.port.rxbuf[j] } }

/-- A fatal fault on instance `i`: recorded, reported, halted; nothing else changes (60_exceptions.md R305). -/
def fatalOn (s : State) (i : InstId) (kind : FatalKind) (code : Word) : State :=
  { s.setInst i { s.inst i with fatal := some { kind := kind, code := code }, life := .halted } with
    hooks := s.hooks ++ [.reportFatal kind code] }

/-- A standard slot matches an identifier (43_filter_table.md R209). -/
def StdHit (f : StdFilter) (v : BitVec 11) : Prop := ∃ fid m, f = .mask fid m ∧ v &&& m = fid &&& m

/-- An extended slot matches an identifier (43_filter_table.md R209). -/
def ExtHit (f : ExtFilter) (v : BitVec 29) : Prop := ∃ fid m, f = .mask fid m ∧ v &&& m = fid &&& m

/-- `valid_timing`: each value at least 1 and within the range the hardware validates (44_controller_context.md R233). -/
def ValidTiming (g : TimingRange) (t : Timing) : Prop :=
  (1 ≤ t.prescaler ∧ g.prescaler.lo ≤ t.prescaler ∧ t.prescaler ≤ g.prescaler.hi)
    ∧ (1 ≤ t.seg1 ∧ g.seg1.lo ≤ t.seg1 ∧ t.seg1 ≤ g.seg1.hi)
    ∧ (1 ≤ t.seg2 ∧ g.seg2.lo ≤ t.seg2 ∧ t.seg2 ≤ g.seg2.hi)
    ∧ (1 ≤ t.sjw ∧ g.sjw.lo ≤ t.sjw ∧ t.sjw ≤ g.sjw.hi)

/-- `CFG_CONST` (10_state.md R26). -/
def fixedCfg : Cfg :=
  { frameFormat := .classic, mode := .normal, autoRetransmission := true, protocolException := true
    stdFilters := 128, extFilters := 64, rxFifo0Depth := 64, txQueueDepth := 32, txEventDepth := 32 }

/-- The configured policy (10_state.md R27). -/
def fixedGfp : Gfp := { anfs := .reject, anfe := .reject, rrfs := true, rrfe := true }

/-- An instance record after a successful configuration, given its queues (44_controller_context.md R232). -/
def configuredInst (r : InstState) (t : Timing) (txq : List TxElement) (rxf0 : List RxEntry) (tef : List TxEvent) :
    InstState :=
  { r with
    life := .running, timing := t, cfg := fixedCfg, gfp := fixedGfp, txq := txq, rxf0 := rxf0, tef := tef
    sft := r.sft.set 0 (.mask 0 0), xft := r.xft.set 0 (.mask 0 0) }

/-- The state INIT brings instance `i` up to before `configure`, with the given tables (44_controller_context.md
R231). -/
def broughtUp (s : State) (i : InstId) (sft : Vector StdFilter 128) (xft : Vector ExtFilter 64) : State :=
  { s.setInst i { s.inst i with txq := [], rxf0 := [], tef := [], sft := sft, xft := xft, xidam := 0x1FFFFFFF } with
    clkRef := s.clkRef + 1, clkOn := true
    hooks := s.hooks ++ [.enablePeripheralClock, .configurePins i, .enableInterrupt i] }

/-- The instance a command names (30_encoding.md R91). -/
def target : Instr → Option InstId
  | .dlcEnc => none
  | .dlcDec => none
  | .frameEnc _ _ => none
  | .frameDec => none
  | .write i _ _ => some i
  | .read i => some i
  | .filterProg i _ => some i
  | .accept i _ _ => some i
  | .txFree i => some i
  | .init i => some i
  | .deinit i => some i
  | .setBitTiming i => some i
  | .rxErr i => some i
  | .txErr i => some i

/-- The commands that need a running instance (41_frame_encoder.md R153). -/
def NeedsRunning : Instr → Prop
  | .dlcEnc => False
  | .dlcDec => False
  | .frameEnc _ _ => False
  | .frameDec => False
  | .write _ _ _ => True
  | .read _ => True
  | .filterProg _ _ => True
  | .accept _ _ _ => True
  | .txFree _ => True
  | .init _ => False
  | .deinit _ => False
  | .setBitTiming _ => True
  | .rxErr _ => True
  | .txErr _ => True

/-- The commands that change no block state (20_memory.md R72). -/
def IsQuery : Instr → Prop
  | .dlcEnc => True
  | .dlcDec => True
  | .frameEnc _ _ => True
  | .frameDec => True
  | .write _ _ _ => False
  | .read _ => False
  | .filterProg _ _ => False
  | .accept _ _ _ => True
  | .txFree _ => True
  | .init _ => False
  | .deinit _ => False
  | .setBitTiming _ => False
  | .rxErr _ => True
  | .txErr _ => True

/-- A turn of a bus agent. -/
def IsBusTurn : Turn → Prop
  | .host _ => False
  | .busTx _ => True
  | .busRx _ _ => True

/-- A successful WRITE: the element at the tail of the queue, `RES0 = 0`, `STATUS = Ok` (41_frame_encoder.md R150). -/
def queuedWrite (s : State) (i : InstId) (xtd rtr : Bool) (c : BitVec 4) (data : List Byte) : State :=
  withRes0
    (s.setInst i
      { s.inst i with
        txq := (s.inst i).txq ++ [{ t0 := headerT0 s.port.arg0 xtd rtr, t1 := headerT1 c, data := data }] })
    0x00 0

/-- What a READ that does not fail makes of the head entry (42_frame_decoder.md R180). -/
def ReadsHead (s : State) (i : InstId) (e : RxEntry) (rest : List RxEntry) (t : State) : Prop :=
  ∀ n, (n, e.r1.extractLsb' 16 4) ∈ dlcRows →
    (8 < n ∧ s.params.rxOverlength = .fault → t = withStatus (s.setInst i { s.inst i with rxf0 := rest }) 0x05)
      ∧ (n ≤ 8 ∨ s.params.rxOverlength = .truncate →
          t = delivered (s.setInst i { s.inst i with rxf0 := rest }) e.r0 (e.data.take (min n 8)))

/-- The outcome of ACCEPT when no slot matches, by the non-matching policy (43_filter_table.md R208). -/
def noMatchResult (s : State) (a : NonMatch) : State :=
  withRes01 s 0x00 (if a = .acceptFifo0 then 1 else 0) 0xFFFFFFFF

/-- A legal bus frame (45_bus_agent.md R271). -/
def LegalFrame (bf : BusFrame) : Prop :=
  (bf.rtr = true → bf.data = []) ∧ (bf.rtr = false → ∀ n, (n, bf.dlc) ∈ dlcRows → bf.data.length = min n 8)

/-- `R0` of an arriving frame (45_bus_agent.md R273). -/
def arrivedR0 (bf : BusFrame) : Word :=
  match bf.ident with
  | .std id => (bit bf.rtr <<< 29) ||| (id.setWidth 32 <<< 18)
  | .ext id => (1 <<< 30) ||| (bit bf.rtr <<< 29) ||| id.setWidth 32

end Sys2Proof.Claims

open Sys2Proof Sys2Proof.Machine Sys2Proof.Claims

/-! ### Encoding -/

/-- Decoding an encoded command gives it back, with every flag at every value (30_encoding.md R90, R91). -/
def Obligations.DecodeOfEncodeIsTheInstruction : Prop := ∀ i : Instr, decode (encode i) = .ok i

/-- Each command word has one meaning: a word that decodes is the encoding of what it decodes to. -/
def Obligations.EncodeOfDecodeIsTheWord : Prop := ∀ (w : Word) (i : Instr), decode w = .ok i → encode i = w

/-- A word decodes exactly when 30_encoding.md R93 does not make it illegal, and that is what well-formedness of its
fields says. -/
def Obligations.DecodesExactlyLegalWords : Prop :=
  ∀ w : Word, ((∃ i, decode w = .ok i) ↔ ¬ IllegalWord w) ∧ ((RawCmd.ofWord w).wf = true ↔ ¬ IllegalWord w)

/-- 30_encoding.md R93: each illegal word, and DLC_DEC with `ARG0[31:4] ≠ 0`, is refused and does nothing else. -/
def Obligations.IllegalCommandIsRefused : Prop :=
  (∀ (s : State) (c : Issue) (rest : List Turn), s.agenda = .host c :: rest → s.hostStop? = none →
      IllegalWord c.cmd → step s = .next (refusedWith ((s.beginTurn rest).present c) .illegalCommand))
    ∧ ∀ s : State, s.port.written.arg0 = true → 16 ≤ s.port.arg0.toNat →
      exec .dlcDec s = .next (refusedWith s .illegalCommand)

/-- Words written out from 30_encoding.md R90, R91 and R95, one for each family of the command map. -/
def Obligations.WrittenOutWordsDecode : Prop :=
  decode 0x00000001 = .ok .dlcEnc ∧ decode 0x00000403 = .ok (.frameEnc false true)
    ∧ decode 0x00000605 = .ok (.write .i0 true true) ∧ decode 0x00000106 = .ok (.read .i1)
    ∧ decode 0x00000307 = .ok (.filterProg .i1 true) ∧ decode 0x00000010 = .ok (.init .i0)

/-- 30_encoding.md R85: a standard slot and its word; exactly the words with `SFEC`, bits 29:27, 0 read as disabled. -/
def Obligations.StandardFilterWord : Prop :=
  ∀ (w : Word) (fid fmask : BitVec 11),
    stdWord .fdcanH7 (.mask fid fmask) = 0x88000000 ||| (fid.setWidth 32 <<< 16) ||| fmask.setWidth 32
      ∧ (stdOfWord .fdcanH7 w = some (.mask fid fmask) ↔ w = stdWord .fdcanH7 (.mask fid fmask))
      ∧ stdWord .fdcanH7 .disabled = 0x00000000
      ∧ (stdOfWord .fdcanH7 w = some .disabled ↔ w.extractLsb' 27 3 = 0)

/-- 30_encoding.md R86: an extended slot and its words. -/
def Obligations.ExtendedFilterWords : Prop :=
  ∀ (w0 w1 : Word) (fid fmask : BitVec 29),
    extWord0 .fdcanH7 (.mask fid fmask) = 0x20000000 ||| fid.setWidth 32
      ∧ extWord1 .fdcanH7 (.mask fid fmask) = 0x80000000 ||| fmask.setWidth 32
      ∧ (extOfWords .fdcanH7 w0 w1 = some (.mask fid fmask)
          ↔ w0 = extWord0 .fdcanH7 (.mask fid fmask) ∧ w1 = extWord1 .fdcanH7 (.mask fid fmask))
      ∧ extWord0 .fdcanH7 .disabled = 0x00000000 ∧ extWord1 .fdcanH7 .disabled = 0x00000000

/-- 30_encoding.md R81 to R83, R87: no field of a header or of the policy is lost in its words. -/
def Obligations.HeaderAndPolicyWordsRoundTrip : Prop :=
  (∀ (L : Layout) (h : TxHeader), TxHeader.ofWords L (h.t0 L) (h.t1 L) = h)
    ∧ (∀ (L : Layout) (h : RxHeader), RxHeader.ofWords L (h.r0 L) (h.r1 L) = h)
    ∧ (∀ (L : Layout) (g : Gfp), gfpOfWord L (gfcWord L g) = g)
    ∧ gfcWord .fdcanH7 fixedGfp = 0x0000002B

/-- 20_memory.md R62: byte `4w+b` of an element is bits `8b+7 : 8b` of its data word `w`. -/
def Obligations.DataWordsArePackedLittleEndian : Prop :=
  ∀ (data : List Byte) (w b : Nat), b < 4 → ∀ h : 4 * w + b < data.length,
    (dataWord data w).extractLsb' (8 * b) 8 = data[4 * w + b]

/-! ### The DLC table -/

/-- 40_dlc_table.md R123: a strict, strictly increasing bijection between `LEN_SET` and the codes, the table R120. -/
def Obligations.DlcTableIsAStrictBijection : Prop :=
  (∀ n c, bytesToDlc n = some c ↔ (n, c) ∈ dlcRows)
    ∧ (∀ n, (∃ c, bytesToDlc n = some c) ↔ n ∈ lenSet)
    ∧ (∀ n c, bytesToDlc n = some c → dlcToBytes c = n)
    ∧ (∀ c, bytesToDlc (dlcToBytes c) = some c)
    ∧ (∀ c c' : BitVec 4, c.toNat < c'.toNat → dlcToBytes c < dlcToBytes c')

/-- 40_dlc_table.md R121: DLC_ENC, every outcome. -/
def Obligations.DlcEncOutcomes : Prop :=
  encode .dlcEnc = 0x00000001 ∧ ∀ s : State,
    (s.port.written.arg0 = false → exec .dlcEnc s = .next (refusedWith s .unwrittenOperand))
      ∧ (s.port.written.arg0 = true →
          (∀ n c, (n, c) ∈ dlcRows → s.port.arg0.toNat = n → exec .dlcEnc s = .next (withRes0 s 0x00 (c.setWidth 32)))
            ∧ (s.port.arg0.toNat ∉ lenSet → exec .dlcEnc s = .next (undefinedWith s s.port.arg0.toNat)))

/-- 40_dlc_table.md R122: DLC_DEC, every outcome. That an unwritten `ARG0` gives `UnwrittenOperand` whatever bits the port
holds is the model's reading (DEDUCED, log 12). -/
def Obligations.DlcDecOutcomes : Prop :=
  encode .dlcDec = 0x00000002 ∧ ∀ s : State,
    (s.port.written.arg0 = false → exec .dlcDec s = .next (refusedWith s .unwrittenOperand))
      ∧ (s.port.written.arg0 = true →
          (s.port.arg0.extractLsb' 4 28 ≠ 0 → exec .dlcDec s = .next (refusedWith s .illegalCommand))
            ∧ (∀ n c, (n, c) ∈ dlcRows → s.port.arg0 = c.setWidth 32 →
                exec .dlcDec s = .next (withRes0 s 0x00 (BitVec.ofNat 32 n))))

/-! ### The encoder and the transmit queue -/

/-- 41_frame_encoder.md R142, R143, R144: the fields of the words the encoder makes; no identifier makes it fail. -/
def Obligations.EncodedHeaderFields : Prop :=
  ∀ (p : Params) (id : Word) (xtd rtr : Bool) (payload : List Byte) (h : TxHeader),
    enc p id xtd rtr payload = .header h →
      (xtd = true → h.t0 p.layout &&& 0x1FFFFFFF = id &&& 0x1FFFFFFF)
        ∧ (xtd = false → (h.t0 p.layout).extractLsb' 18 11 = id.extractLsb' 0 11
            ∧ (h.t0 p.layout).extractLsb' 0 18 = 0)
        ∧ (h.t0 p.layout).getLsbD 31 = false ∧ (h.t0 p.layout).getLsbD 30 = xtd ∧ (h.t0 p.layout).getLsbD 29 = rtr
        ∧ (payload.length, (h.t1 p.layout).extractLsb' 16 4) ∈ dlcRows
        ∧ (h.t1 p.layout).getLsbD 23 = true ∧ (h.t1 p.layout).getLsbD 21 = false ∧ (h.t1 p.layout).getLsbD 20 = false
        ∧ (h.t1 p.layout).extractLsb' 24 8 = 0 ∧ (h.t1 p.layout).getLsbD 22 = false
        ∧ (h.t1 p.layout).extractLsb' 0 16 = 0
        ∧ ∀ id' : Word, ∃ h', enc p id' xtd rtr payload = .header h'

/-- 41_frame_encoder.md R140: FRAME_ENC, every outcome. -/
def Obligations.FrameEncOutcomes : Prop :=
  ∀ xtd rtr : Bool, encode (.frameEnc xtd rtr) = 0x00000003 ||| (bit rtr <<< 10) ||| (bit xtd <<< 9) ∧ ∀ s : State,
    (s.port.written.arg0 = false ∨ LacksPayload s →
        exec (.frameEnc xtd rtr) s = .next (refusedWith s .unwrittenOperand))
      ∧ (s.port.written.arg0 = true → ∀ data, HasPayload s data →
          (data.length ∉ lenSet → exec (.frameEnc xtd rtr) s = .next (undefinedWith s data.length))
            ∧ (data.length ∈ lenSet → 8 < data.length → s.params.classicOverlength = .reject →
                exec (.frameEnc xtd rtr) s = .next (withStatus s 0x04))
            ∧ (∀ c, (data.length, c) ∈ dlcRows → data.length ≤ 8 ∨ s.params.classicOverlength = .truncate →
                exec (.frameEnc xtd rtr) s
                  = .next (withRes01 s 0x00 (headerT0 s.port.arg0 xtd rtr) (headerT1 c))))

/-- 41_frame_encoder.md R150, R151: WRITE, every outcome. -/
def Obligations.WriteOutcomes : Prop :=
  ∀ (i : InstId) (xtd rtr : Bool),
    encode (.write i xtd rtr)
        = 0x00000005 ||| (bit rtr <<< 10) ||| (bit xtd <<< 9) ||| (bit (decide (i = .i1)) <<< 8)
      ∧ ∀ s : State,
    (s.port.written.arg0 = false ∨ LacksPayload s →
        exec (.write i xtd rtr) s = .next (refusedWith s .unwrittenOperand))
      ∧ (s.port.written.arg0 = true → ∀ data, HasPayload s data →
          ((s.inst i).life ≠ .running → exec (.write i xtd rtr) s = .next (refusedWith s .notRunning))
            ∧ ((s.inst i).life = .running →
                (data.length ∉ lenSet → exec (.write i xtd rtr) s = .next (undefinedWith s data.length))
                  ∧ (data.length ∈ lenSet → 8 < data.length → s.params.classicOverlength = .reject →
                      exec (.write i xtd rtr) s = .next (withStatus s 0x04))
                  ∧ (∀ c, (data.length, c) ∈ dlcRows → data.length ≤ 8 ∨ s.params.classicOverlength = .truncate →
                      ((s.inst i).txq.length = 32 →
                          exec (.write i xtd rtr) s = .next (withRes0 s 0x02 s.params.errTxFull))
                        ∧ ((s.inst i).txq.length ≠ 32 → s.params.txSubmitMayFail = false →
                            exec (.write i xtd rtr) s = .next (queuedWrite s i xtd rtr c data))
                        ∧ ((s.inst i).txq.length ≠ 32 → s.params.txSubmitMayFail = true →
                            exec (.write i xtd rtr) s = .next (queuedWrite s i xtd rtr c data)
                              ∨ ∃ code, exec (.write i xtd rtr) s = .next (withRes0 s 0x03 code)))))

/-- 41_frame_encoder.md R155: TX_FREE, every outcome. -/
def Obligations.TxFreeOutcomes : Prop :=
  ∀ i : InstId, encode (.txFree i) = 0x00000009 ||| (bit (decide (i = .i1)) <<< 8) ∧ ∀ s : State,
    ((s.inst i).life = .running →
        exec (.txFree i) s = .next (withRes0 s 0x00 (BitVec.ofNat 32 (32 - (s.inst i).txq.length))))
      ∧ ((s.inst i).life ≠ .running → exec (.txFree i) s = .next (refusedWith s .notRunning))

/-! ### The decoder and receive FIFO 0 -/

/-- 42_frame_decoder.md R172, R173, R174: the fields of a decoded frame and the range of its identifier; over length
gives a cut payload or `Overlength`, as `RX_OVERLENGTH` says. -/
def Obligations.DecodedFrameFields : Prop :=
  ∀ (p : Params) (r0 r1 : Word) (data : List Byte) (n : Nat), (n, r1.extractLsb' 16 4) ∈ dlcRows →
    (8 < n → p.rxOverlength = .fault → dec p r0 r1 data = .overlength n)
      ∧ (n ≤ 8 ∨ p.rxOverlength = .truncate → ∃ f, dec p r0 r1 data = .frame f
          ∧ f.isExtended = r0.getLsbD 30 ∧ f.isRemote = r0.getLsbD 29
          ∧ (f.isExtended = true → f.id = r0 &&& 0x1FFFFFFF ∧ f.id.toNat ≤ 0x1FFFFFFF)
          ∧ (f.isExtended = false → f.id = (r0 >>> 18) &&& 0x7FF ∧ f.id.toNat ≤ 0x7FF)
          ∧ f.payload = data.take (min n 8))

/-- 42_frame_decoder.md R175: entries that differ only in the ignored fields decode alike. -/
def Obligations.DecoderIgnoresOtherFields : Prop :=
  ∀ (p : Params) (r0 r0' r1 r1' : Word) (data : List Byte),
    r0.getLsbD 30 = r0'.getLsbD 30 → r0.getLsbD 29 = r0'.getLsbD 29 →
    (r0.getLsbD 30 = true → r0.extractLsb' 0 29 = r0'.extractLsb' 0 29) →
    (r0.getLsbD 30 = false → r0.extractLsb' 18 11 = r0'.extractLsb' 18 11) →
    r1.extractLsb' 16 4 = r1'.extractLsb' 16 4 →
    dec p r0 r1 data = dec p r0' r1' data

/-- 42_frame_decoder.md R184: the round-trip law at descriptor level. -/
def Obligations.DecodeOfEncodedFrameIsTheFrame : Prop :=
  ∀ (p : Params) (id : Word) (xtd rtr : Bool) (payload pad : List Byte),
    (xtd = false → id.toNat ≤ 0x7FF) → (xtd = true → id.toNat ≤ 0x1FFFFFFF) → payload.length ≤ 8 →
    (payload ++ pad).length = 64 →
    ∃ h, enc p id xtd rtr payload = .header h
      ∧ dec p (h.t0 p.layout) (((h.t1 p.layout).extractLsb' 16 4).setWidth 32 <<< 16) (payload ++ pad)
          = .frame { id := id, isExtended := xtd, isRemote := rtr, payload := payload }

/-- 42_frame_decoder.md R185: a payload of 12 to 64 bytes does not survive the round trip. -/
def Obligations.LongPayloadsAreCutOrRefused : Prop :=
  ∀ (p : Params) (id : Word) (xtd rtr : Bool) (payload pad : List Byte) (h : TxHeader),
    8 < payload.length → enc p id xtd rtr payload = .header h →
    9 ≤ ((h.t1 p.layout).extractLsb' 16 4).toNat
      ∧ (p.rxOverlength = .fault →
        dec p (h.t0 p.layout) (((h.t1 p.layout).extractLsb' 16 4).setWidth 32 <<< 16) (payload ++ pad)
          = .overlength payload.length)
      ∧ (p.rxOverlength = .truncate → ∃ f,
          dec p (h.t0 p.layout) (((h.t1 p.layout).extractLsb' 16 4).setWidth 32 <<< 16) (payload ++ pad) = .frame f
            ∧ f.payload = payload.take 8 ∧ f.payload ≠ payload)

/-- 42_frame_decoder.md R170: FRAME_DEC, every outcome. That any unwritten byte below `TXLEN` refuses the command, also
where the frame delivers fewer bytes, is the model's reading (DEDUCED, log 13). -/
def Obligations.FrameDecOutcomes : Prop :=
  encode .frameDec = 0x00000004 ∧ ∀ s : State,
    (s.port.written.arg0 = false ∨ s.port.written.arg1 = false ∨ LacksPayload s →
        exec .frameDec s = .next (refusedWith s .unwrittenOperand))
      ∧ (s.port.written.arg0 = true → s.port.written.arg1 = true → ∀ data, HasPayload s data →
          ∀ n, (n, s.port.arg1.extractLsb' 16 4) ∈ dlcRows →
            (data.length < min n 8 → exec .frameDec s = .next (refusedWith s .unsuppliedBytes))
              ∧ (min n 8 ≤ data.length → 8 < n → s.params.rxOverlength = .fault →
                  exec .frameDec s = .next (withStatus s 0x05))
              ∧ (min n 8 ≤ data.length → n ≤ 8 ∨ s.params.rxOverlength = .truncate →
                  exec .frameDec s = .next (delivered s s.port.arg0 (data.take (min n 8)))))

/-- 42_frame_decoder.md R180, R181: READ, every outcome. -/
def Obligations.ReadOutcomes : Prop :=
  ∀ i : InstId, encode (.read i) = 0x00000006 ||| (bit (decide (i = .i1)) <<< 8) ∧ ∀ s : State,
    ((s.inst i).life ≠ .running → exec (.read i) s = .next (refusedWith s .notRunning))
      ∧ ((s.inst i).life = .running →
          ((s.inst i).rxf0 = [] → exec (.read i) s = .next (withStatus s 0x01))
            ∧ ∀ e rest, (s.inst i).rxf0 = e :: rest →
              (s.params.rxReadMayFail = false → ∃ t, exec (.read i) s = .next t ∧ ReadsHead s i e rest t)
                ∧ (s.params.rxReadMayFail = true →
                    (∃ t, exec (.read i) s = .next t ∧ ReadsHead s i e rest t)
                      ∨ (∃ code, exec (.read i) s = .next (withRes0 s 0x03 code))
                      ∨ ∃ code, exec (.read i) s
                          = .next (withRes0 (s.setInst i { s.inst i with rxf0 := rest }) 0x03 code)))

/-! ### The filter table -/

/-- 43_filter_table.md R201: FILTER_PROG, every outcome. -/
def Obligations.FilterProgOutcomes : Prop :=
  ∀ (i : InstId) (xtd : Bool),
    encode (.filterProg i xtd) = 0x00000007 ||| (bit xtd <<< 9) ||| (bit (decide (i = .i1)) <<< 8) ∧ ∀ s : State,
    (s.port.written.arg0 = false ∨ s.port.written.arg1 = false ∨ s.port.written.arg2 = false →
        exec (.filterProg i xtd) s = .next (refusedWith s .unwrittenOperand))
      ∧ (s.port.written.arg0 = true → s.port.written.arg1 = true → s.port.written.arg2 = true →
          ((s.inst i).life ≠ .running → exec (.filterProg i xtd) s = .next (refusedWith s .notRunning))
            ∧ ((s.inst i).life = .running →
                (xtd = false → ∀ h : s.port.arg0.toNat < 128, exec (.filterProg i xtd) s
                    = .next (withStatus
                        (s.setInst i
                          { s.inst i with
                            sft := (s.inst i).sft.set s.port.arg0.toNat
                              (.mask ((s.port.arg1 &&& 0x7FF).setWidth 11) ((s.port.arg2 &&& 0x7FF).setWidth 11)) })
                        0x00))
                  ∧ (xtd = true → ∀ h : s.port.arg0.toNat < 64, exec (.filterProg i xtd) s
                      = .next (withStatus
                          (s.setInst i
                            { s.inst i with
                              xft := (s.inst i).xft.set s.port.arg0.toNat
                                (.mask ((s.port.arg1 &&& 0x1FFFFFFF).setWidth 29)
                                  ((s.port.arg2 &&& 0x1FFFFFFF).setWidth 29)) })
                          0x00))
                  ∧ ((xtd = false ∧ 128 ≤ s.port.arg0.toNat) ∨ (xtd = true ∧ 64 ≤ s.port.arg0.toNat) →
                      exec (.filterProg i xtd) s = .next (fatalOn s i .configurationFault 0x01))))

/-- 20_memory.md R73: FILTER_PROG is idempotent, unless it halts its instance. -/
def Obligations.FilterProgTwiceIsOnce : Prop :=
  ∀ (i : InstId) (xtd : Bool) (s t : State), exec (.filterProg i xtd) s = .next t →
    (t.inst i).life = (s.inst i).life → exec (.filterProg i xtd) t = .next t

/-- 43_filter_table.md R209, R210: ACCEPT, every outcome. -/
def Obligations.AcceptOutcomes : Prop :=
  ∀ (i : InstId) (xtd rtr : Bool),
    encode (.accept i xtd rtr)
        = 0x00000008 ||| (bit rtr <<< 10) ||| (bit xtd <<< 9) ||| (bit (decide (i = .i1)) <<< 8)
      ∧ ∀ s : State,
    (s.port.written.arg0 = false → exec (.accept i xtd rtr) s = .next (refusedWith s .unwrittenOperand))
      ∧ (s.port.written.arg0 = true → (s.inst i).life ≠ .running →
          exec (.accept i xtd rtr) s = .next (refusedWith s .notRunning))
      ∧ (s.port.written.arg0 = true → (s.inst i).life = .running →
          (rtr = true ∧ (if xtd then (s.inst i).gfp.rrfe else (s.inst i).gfp.rrfs) = true →
              exec (.accept i xtd rtr) s = .next (withRes01 s 0x00 0 0xFFFFFFFF))
            ∧ (rtr = false ∨ (if xtd then (s.inst i).gfp.rrfe else (s.inst i).gfp.rrfs) = false →
                (xtd = false →
                    (∀ k (h : k < 128), StdHit (s.inst i).sft[k] (s.port.arg0.setWidth 11) →
                        (∀ j (hj : j < k), ¬ StdHit (s.inst i).sft[j] (s.port.arg0.setWidth 11)) →
                        exec (.accept i xtd rtr) s = .next (withRes01 s 0x00 1 (BitVec.ofNat 32 k)))
                      ∧ ((∀ k (h : k < 128), ¬ StdHit (s.inst i).sft[k] (s.port.arg0.setWidth 11)) →
                          exec (.accept i xtd rtr) s = .next (noMatchResult s (s.inst i).gfp.anfs)))
                  ∧ (xtd = true →
                      (∀ k (h : k < 64), ExtHit (s.inst i).xft[k] (s.port.arg0.setWidth 29 &&& (s.inst i).xidam) →
                          (∀ j (hj : j < k),
                            ¬ ExtHit (s.inst i).xft[j] (s.port.arg0.setWidth 29 &&& (s.inst i).xidam)) →
                          exec (.accept i xtd rtr) s = .next (withRes01 s 0x00 1 (BitVec.ofNat 32 k)))
                        ∧ ((∀ k (h : k < 64),
                              ¬ ExtHit (s.inst i).xft[k] (s.port.arg0.setWidth 29 &&& (s.inst i).xidam)) →
                            exec (.accept i xtd rtr) s = .next (noMatchResult s (s.inst i).gfp.anfe)))))

/-- 43_filter_table.md R212: right after a configuration every data frame of either type is accepted by slot 0. -/
def Obligations.ConfigurationAcceptsEveryDataFrame : Prop :=
  ∀ (i : InstId) (s t : State), exec (.init i) s = .next t ∨ exec (.setBitTiming i) s = .next t →
    t.refused = false → (t.inst i).life = .running →
    ∀ id : Ident, (t.inst i).judge id false = .fifo0 0

/-- 43_filter_table.md R213: with the configured policy no remote frame is accepted, whatever the tables hold. -/
def Obligations.ConfiguredPolicyRejectsRemoteFrames : Prop :=
  ∀ (i : InstId) (s : State), (s.inst i).gfp.rrfs = true → (s.inst i).gfp.rrfe = true →
    (∀ id : Ident, (s.inst i).judge id true = .reject) ∧ (∀ bf : BusFrame, bf.rtr = true → busRx i bf s = s)
      ∧ ∀ (xtd : Bool) (t : State), exec (.filterProg i xtd) s = .next t → (t.inst i).gfp = (s.inst i).gfp

/-- 43_filter_table.md R214, for a slot that was disabled (log 29): programming it only adds acceptances of data
frames. -/
def Obligations.ProgrammingADisabledSlotOnlyAdds : Prop :=
  ∀ (r : InstState) (k : Nat) (id fmask : Word) (a : Ident), (r.judge a false).stored = true →
    (∀ h : k < 128, r.sft[k] = .disabled → ((r.programStd k id fmask).judge a false).stored = true)
      ∧ (∀ h : k < 64, r.xft[k] = .disabled → ((r.programExt k id fmask).judge a false).stored = true)

/-! ### The controller context -/

/-- 44_controller_context.md R231: INIT, every outcome. -/
def Obligations.InitOutcomes : Prop :=
  ∀ i : InstId, encode (.init i) = 0x00000010 ||| (bit (decide (i = .i1)) <<< 8) ∧ ∀ s : State,
    (¬ HasTiming s → exec (.init i) s = .next (refusedWith s .unwrittenOperand))
      ∧ (HasTiming s → (s.inst i).life ≠ .uninitialized →
          exec (.init i) s = .next (refusedWith s .alreadyInitialized))
      ∧ (HasTiming s → (s.inst i).life = .uninitialized →
          ∃ sft xft,
            (s.params.unprogrammedSlot = .disabled →
                sft = Vector.replicate 128 .disabled ∧ xft = Vector.replicate 64 .disabled)
              ∧ (¬ ValidTiming s.params.timingRange (timingArgs s) →
                  exec (.init i) s = .next (fatalOn (broughtUp s i sft xft) i .configurationFault 0x02))
              ∧ (ValidTiming s.params.timingRange (timingArgs s) →
                  let up := broughtUp s i sft xft
                  let ran := withStatus (up.setInst i (configuredInst (up.inst i) (timingArgs s) [] [] [])) 0x00
                  (s.params.configMayFail = false → exec (.init i) s = .next ran)
                    ∧ (s.params.configMayFail = true →
                        exec (.init i) s = .next ran
                          ∨ ∃ code, exec (.init i) s
                              = .next (fatalOn
                                  (up.setInst i { up.inst i with timing := timingArgs s, cfg := fixedCfg })
                                  i .hardwareFault code))))

/-- 44_controller_context.md R236: DEINIT, every outcome. The unspecified fields hold some value. That `clk_ref` stays 0
where it was 0, a state no run reaches, is the model's choice (DESIGN CHOICE, log 18). -/
def Obligations.DeinitOutcomes : Prop :=
  ∀ i : InstId, encode (.deinit i) = 0x00000011 ||| (bit (decide (i = .i1)) <<< 8) ∧ ∀ s : State,
    ((s.inst i).life ≠ .running → exec (.deinit i) s = .next (refusedWith s .notRunning))
      ∧ ((s.inst i).life = .running →
          ∃ sft xft gfp timing cfg,
            exec (.deinit i) s
              = .next
                  { s.setInst i
                      { s.inst i with
                        life := .uninitialized, txq := [], rxf0 := [], tef := []
                        sft := sft, xft := xft, gfp := gfp, timing := timing, cfg := cfg } with
                    clkRef := s.clkRef - 1
                    clkOn := if s.clkRef - 1 = 0 then false else s.clkOn
                    hooks :=
                      s.hooks ++ [.releasePins i, .disableInterrupt i]
                        ++ (if s.clkRef - 1 = 0 then [.disablePeripheralClock] else [])
                    port := { s.port with status := 0x00 } })

/-- 44_controller_context.md R240: SET_BIT_TIMING, every outcome. Slots 1 and up keep their values. -/
def Obligations.SetBitTimingOutcomes : Prop :=
  ∀ i : InstId, encode (.setBitTiming i) = 0x00000012 ||| (bit (decide (i = .i1)) <<< 8) ∧ ∀ s : State,
    (¬ HasTiming s → exec (.setBitTiming i) s = .next (refusedWith s .unwrittenOperand))
      ∧ (HasTiming s → (s.inst i).life ≠ .running → exec (.setBitTiming i) s = .next (refusedWith s .notRunning))
      ∧ (HasTiming s → (s.inst i).life = .running →
          (¬ ValidTiming s.params.timingRange (timingArgs s) →
              exec (.setBitTiming i) s = .next (fatalOn s i .configurationFault 0x02))
            ∧ (ValidTiming s.params.timingRange (timingArgs s) →
                ∃ txq rxf0 tef,
                  (s.params.reconfigQueues = .empty → txq = [] ∧ rxf0 = [] ∧ tef = [])
                    ∧ (txq = [] ∨ txq = (s.inst i).txq) ∧ (rxf0 = [] ∨ rxf0 = (s.inst i).rxf0)
                    ∧ (tef = [] ∨ tef = (s.inst i).tef)
                    ∧ let ran :=
                        withStatus (s.setInst i (configuredInst (s.inst i) (timingArgs s) txq rxf0 tef)) 0x00
                      (s.params.configMayFail = false → exec (.setBitTiming i) s = .next ran)
                        ∧ (s.params.configMayFail = true →
                            exec (.setBitTiming i) s = .next ran
                              ∨ ∃ code, exec (.setBitTiming i) s
                                  = .next (fatalOn
                                      (s.setInst i { s.inst i with timing := timingArgs s, cfg := fixedCfg })
                                      i .hardwareFault code))))

/-- 44_controller_context.md R250, R251: RX_ERR and TX_ERR, every outcome. -/
def Obligations.ErrorCountOutcomes : Prop :=
  ∀ i : InstId, encode (.rxErr i) = 0x00000013 ||| (bit (decide (i = .i1)) <<< 8)
    ∧ encode (.txErr i) = 0x00000014 ||| (bit (decide (i = .i1)) <<< 8)
    ∧ ∀ s : State,
      ((s.inst i).life = .running →
          exec (.rxErr i) s = .next (withRes0 s 0x00 ((BitVec.ofNat 8 (s.inst i).recRaw).setWidth 32))
            ∧ exec (.txErr i) s = .next (withRes0 s 0x00 ((BitVec.ofNat 8 (s.inst i).tecRaw).setWidth 32)))
        ∧ ((s.inst i).life ≠ .running →
            exec (.rxErr i) s = .next (refusedWith s .notRunning)
              ∧ exec (.txErr i) s = .next (refusedWith s .notRunning))

/-! ### The bus agent -/

/-- 45_bus_agent.md R270: BUS_TX on a running instance with a queued element. -/
def Obligations.BusTxSendsTheHead : Prop :=
  ∀ (i : InstId) (s : State) (e : TxElement) (rest : List TxElement), (s.inst i).life = .running →
    (s.inst i).txq = e :: rest → ∀ n, (n, e.t1.extractLsb' 16 4) ∈ dlcRows →
    let frame : BusFrame :=
      { ident := if e.t0.getLsbD 30 then .ext (e.t0.extractLsb' 0 29) else .std (e.t0.extractLsb' 18 11)
        rtr := e.t0.getLsbD 29
        dlc := e.t1.extractLsb' 16 4
        data := if e.t0.getLsbD 29 then [] else e.data.take (min e.data.length (min n 8)) }
    (e.t1.getLsbD 23 = true ∧ (s.inst i).tef.length < 32 →
        busTx i s
          = { s.setInst i { s.inst i with txq := rest, tef := (s.inst i).tef ++ [{ t0 := e.t0, t1 := e.t1 }] } with
              emitted := s.emitted ++ [(i, frame)] })
      ∧ (e.t1.getLsbD 23 = false ∨ 32 ≤ (s.inst i).tef.length →
          busTx i s = { s.setInst i { s.inst i with txq := rest } with emitted := s.emitted ++ [(i, frame)] })

/-- 45_bus_agent.md R273, R274: BUS_RX happens on a running instance only, and stores what the acceptance function
accepts. -/
def Obligations.BusRxStoresAcceptedFrames : Prop :=
  ∀ (i : InstId) (s : State) (bf : BusFrame), LegalFrame bf →
    ((s.inst i).life ≠ .running → busRx i bf s = s)
      ∧ ((s.inst i).life = .running →
          ((s.inst i).judge bf.ident bf.rtr = .reject ∨ (s.inst i).judge bf.ident bf.rtr = .fifo1 →
              busRx i bf s = s)
            ∧ ((∃ k, (s.inst i).judge bf.ident bf.rtr = .fifo0 k) ∨ (s.inst i).judge bf.ident bf.rtr = .fifo0NoMatch →
                ∃ (fidx : BitVec 7) (rxts : BitVec 16) (pad : List Byte),
                  (∀ k, (s.inst i).judge bf.ident bf.rtr = .fifo0 k → fidx = BitVec.ofNat 7 k)
                    ∧ (bf.data ++ pad).length = 64
                    ∧ let entry : RxEntry :=
                        { r0 := arrivedR0 bf
                          r1 :=
                            (bit (decide ((s.inst i).judge bf.ident bf.rtr = .fifo0NoMatch)) <<< 31)
                              ||| (fidx.setWidth 32 <<< 24) ||| (bf.dlc.setWidth 32 <<< 16) ||| rxts.setWidth 32
                          data := bf.data ++ pad }
                      ((s.inst i).rxf0.length < 64 →
                          busRx i bf s = s.setInst i { s.inst i with rxf0 := (s.inst i).rxf0 ++ [entry] })
                        ∧ (64 ≤ (s.inst i).rxf0.length → s.params.rxOverflow = .dropNew → busRx i bf s = s)
                        ∧ (64 ≤ (s.inst i).rxf0.length → s.params.rxOverflow = .overwrite →
                            busRx i bf s = s.setInst i { s.inst i with rxf0 := (s.inst i).rxf0.tail ++ [entry] })))

/-- 45_bus_agent.md R276: no bus step occurs on an instance that is not running, and none happens on an empty queue
(R270). -/
def Obligations.BusStepsNeedARunningInstance : Prop :=
  ∀ (i : InstId) (s : State),
    ((s.inst i).life ≠ .running → busTx i s = s ∧ ∀ bf, busRx i bf s = s) ∧ ((s.inst i).txq = [] → busTx i s = s)

/-- 20_memory.md R64: `n` transmissions of an instance emit the first `n` queued elements in submission order and leave
the others queued. -/
def Obligations.FramesLeaveInSubmissionOrder : Prop :=
  ∀ (i : InstId) (n : Nat) (s : State) (rest : List Turn), (s.inst i).life = .running → n ≤ (s.inst i).txq.length →
    s.agenda = List.replicate n (.busTx i) ++ rest →
    ∃ t, core.run n s = .next t
      ∧ t.emitted = s.emitted ++ ((s.inst i).txq.take n).map (fun e => (i, e.onBus s.params.layout))
      ∧ (t.inst i).txq = (s.inst i).txq.drop n ∧ (t.inst i).life = .running ∧ t.agenda = rest

/-- 70_reset_and_hazards.md R338: bus turns only lower the fill level of a transmit queue, and the host's port and the
instance's life stay, so a WRITE after them finds the room TX_FREE reported. -/
def Obligations.BusTurnsOnlyLowerTheFillLevel : Prop :=
  ∀ (n : Nat) (s t : State), (∀ x ∈ s.agenda.take n, IsBusTurn x) → core.run n s = .next t →
    t.port = s.port ∧ t.hostStop? = s.hostStop?
      ∧ ∀ i, (t.inst i).life = (s.inst i).life ∧ (t.inst i).txq.length ≤ (s.inst i).txq.length

/-- A data frame that arrives at an empty receive FIFO 0 and is accepted is what the next READ delivers
(45_bus_agent.md R273, 42_frame_decoder.md R180, R183). -/
def Obligations.ArrivedFrameIsReadBack : Prop :=
  ∀ (i : InstId) (s : State) (bf : BusFrame), (s.inst i).life = .running → (s.inst i).rxf0 = [] → LegalFrame bf →
    bf.rtr = false → ((s.inst i).judge bf.ident false).stored = true → s.params.rxReadMayFail = false →
    s.params.rxOverlength = .truncate →
    ∃ t, exec (.read i) (busRx i bf s) = .next t ∧ t.port.status = 0x00
      ∧ (∀ id, bf.ident = .std id → t.port.res0 = id.setWidth 32 ∧ t.port.res1 = 0)
      ∧ (∀ id, bf.ident = .ext id → t.port.res0 = id.setWidth 32 ∧ t.port.res1 = 1)
      ∧ t.port.rxlen.val = bf.data.length ∧ t.port.rxbuf.toList.take bf.data.length = bf.data
      ∧ (t.inst i).rxf0 = []

/-! ### Outcomes and the machine as a whole -/

/-- A host turn runs the command its word decodes to, on the ports as the host wrote them; the position advances unless
the command stopped the host. -/
def Obligations.StepRunsTheDecodedCommand : Prop :=
  ∀ (s : State) (c : Issue) (rest : List Turn) (i : Instr) (t : State), s.agenda = .host c :: rest →
    s.hostStop? = none → decode c.cmd = .ok i → exec i ((s.beginTurn rest).present c) = .next t →
    step s = .next (if t.hostStop? = none then { t with hostPos := t.hostPos + 1 } else t)

/-- A step is the next turn of the agenda: a bus turn runs its bus step, and an empty agenda changes nothing (log 2). -/
def Obligations.StepTakesTheNextTurn : Prop :=
  ∀ s : State,
    (s.agenda = [] → step s = .next s)
      ∧ (∀ i rest, s.agenda = .busTx i :: rest → step s = .next (busTx i (s.beginTurn rest)))
      ∧ (∀ i bf rest, s.agenda = .busRx i bf :: rest → step s = .next (busRx i bf (s.beginTurn rest)))

/-- 60_exceptions.md R306, R307, R309: the host has no further step once an outcome that stops it is recorded, and a
step faults in no other case and never refuses. -/
def Obligations.StoppedHostHasNoFurtherStep : Prop :=
  (∀ (s : State) (c : Issue) (rest : List Turn), s.agenda = .host c :: rest →
      (s.inst0.fatal ≠ none ∨ s.inst1.fatal ≠ none ∨ s.undef = true ∨ s.refused = true) → ∃ f, step s = .fault f)
    ∧ (∀ (s : State) (f : Fault), step s = .fault f → (∃ c rest, s.agenda = .host c :: rest)
        ∧ (s.inst0.fatal ≠ none ∨ s.inst1.fatal ≠ none ∨ s.undef = true ∨ s.refused = true))
    ∧ ∀ (s : State) (r : Refusal), step s ≠ .refused r

/-- 10_state.md R21: the host's position advances by one in a host turn whose outcome is a typed result, and in no
other turn. -/
def Obligations.PositionAdvancesOnTypedResults : Prop :=
  ∀ s t : State, step s = .next t →
    ((∃ c rest, s.agenda = .host c :: rest) → t.hostStop? = none → t.hostPos = s.hostPos + 1)
      ∧ ((∃ c rest, s.agenda = .host c :: rest) → t.hostStop? ≠ none → t.hostPos = s.hostPos)
      ∧ ((¬ ∃ c rest, s.agenda = .host c :: rest) → t.hostPos = s.hostPos)

/-- 41_frame_encoder.md R153: each command that names an instance is refused on an uninitialized one, and changes
nothing else. -/
def Obligations.UninitializedInstanceRefusesCommands : Prop :=
  ∀ (c : Instr) (i : InstId) (s : State), NeedsRunning c → target c = some i → (s.inst i).life = .uninitialized →
    ∃ why, exec c s = .next (refusedWith s why)

/-- 60_exceptions.md R307: only DLC_ENC, FRAME_ENC and WRITE raise the undefined-operation fault, on a length outside
`LEN_SET`; it changes nothing else, and the host has no further step. -/
def Obligations.UndefinedLengthChangesNothingElse : Prop :=
  ∀ (c : Instr) (s t : State), s.undef = false → exec c s = .next t → t.undef = true →
    (c = .dlcEnc ∨ (∃ xtd rtr, c = .frameEnc xtd rtr) ∨ ∃ i xtd rtr, c = .write i xtd rtr)
      ∧ (∃ n, n ∉ lenSet ∧ t = undefinedWith s n)
      ∧ ∀ (x : Issue) (rest : List Turn), ∃ f, step { t with agenda := .host x :: rest } = .fault f

/-- 60_exceptions.md R309, R310: a refusal changes nothing but the flag and its reason. -/
def Obligations.RefusalChangesNothingElse : Prop :=
  ∀ (c : Instr) (s t : State), s.refused = false → exec c s = .next t → t.refused = true →
    ∃ why, t = refusedWith s why

/-- 60_exceptions.md R305, 44_controller_context.md R247: a fatal fault is raised only inside FILTER_PROG, INIT and
SET_BIT_TIMING, with the kinds and codes of the table; it is recorded with the instance halted, reported once and last,
and stops the host and the instance's bus agent. -/
def Obligations.FatalFaultHaltsAndReports : Prop :=
  ∀ (c : Instr) (s t : State) (j : InstId), exec c s = .next t → (t.inst j).fatal ≠ (s.inst j).fatal →
    ∃ kind code, (t.inst j).fatal = some { kind := kind, code := code } ∧ (t.inst j).life = .halted
      ∧ (((∃ xtd, c = .filterProg j xtd) ∧ kind = .configurationFault ∧ code = 0x01)
        ∨ ((c = .init j ∨ c = .setBitTiming j)
          ∧ ((kind = .configurationFault ∧ code = 0x02)
            ∨ (kind = .hardwareFault ∧ s.params.configMayFail = true))))
      ∧ (∃ before, t.hooks = before ++ [.reportFatal kind code] ∧ before.countP HookEvent.isReport
          = s.hooks.countP HookEvent.isReport)
      ∧ (∀ (x : Issue) (rest : List Turn), step { t with agenda := .host x :: rest } = .fault .hostHalted)
      ∧ busTx j t = t ∧ ∀ bf, busRx j bf t = t

/-- 10_state.md R37, R35: neither sticky flag is ever cleared, nor a recorded fatal fault. -/
def Obligations.StickyOutcomesStay : Prop :=
  (State.reset.undef = false ∧ State.reset.refused = false)
    ∧ ∀ s t : State, step s = .next t →
      (s.undef = true → t.undef = true) ∧ (s.refused = true → t.refused = true)
        ∧ ∀ i f, (s.inst i).fatal = some f → (t.inst i).fatal = some f ∧ (t.inst i).life = (s.inst i).life

/-- 10_state.md R40: a command neither changes nor reads the record of an instance it does not name, nor does a bus
step of one instance the record of the other. -/
def Obligations.OtherInstanceIsNeitherReadNorWritten : Prop :=
  (∀ (c : Instr) (j : InstId) (s t : State) (r : InstState), target c ≠ some j → exec c s = .next t →
      t.inst j = s.inst j ∧ exec c (s.setInst j r) = .next (t.setInst j r))
    ∧ ∀ (i j : InstId) (s : State) (r : InstState), i ≠ j →
      (busTx i s).inst j = s.inst j ∧ busTx i (s.setInst j r) = (busTx i s).setInst j r
        ∧ ∀ bf, (busRx i bf s).inst j = s.inst j ∧ busRx i bf (s.setInst j r) = (busRx i bf s).setInst j r

/-- 20_memory.md R72: a query changes no block state, only result ports, `STATUS` and the model's sticky flags; an
operand port or a receive port it does not deliver to stays. -/
def Obligations.QueriesChangeNoBlockState : Prop :=
  ∀ (c : Instr) (s t : State), IsQuery c → exec c s = .next t →
    t = { s with
          port :=
            { s.port with
              res0 := t.port.res0, res1 := t.port.res1, rxbuf := t.port.rxbuf, rxlen := t.port.rxlen
              status := t.port.status }
          undef := t.undef, undefLength := t.undefLength
          refused := t.refused, refuseReason := t.refuseReason }
      ∧ (c ≠ .frameDec → t.port.rxbuf = s.port.rxbuf ∧ t.port.rxlen = s.port.rxlen)

/-- 44_controller_context.md R245: the only changes of an instance's life, by command. -/
def Obligations.LifecycleFollowsTheTable : Prop :=
  ∀ (c : Instr) (s t : State) (j : InstId), exec c s = .next t →
    (t.inst j).life = (s.inst j).life
      ∨ ((s.inst j).life = .uninitialized ∧ c = .init j ∧ ((t.inst j).life = .running ∨ (t.inst j).life = .halted))
      ∨ ((s.inst j).life = .running ∧ c = .setBitTiming j ∧ (t.inst j).life = .halted)
      ∨ ((s.inst j).life = .running ∧ (∃ xtd, c = .filterProg j xtd) ∧ (t.inst j).life = .halted)
      ∨ ((s.inst j).life = .running ∧ c = .deinit j ∧ (t.inst j).life = .uninitialized)

/-- The parameters (00_scope.md R10, log 3) and the operand ports belong to the host: no command writes them. -/
def Obligations.CommandsKeepParametersAndOperands : Prop :=
  ∀ (c : Instr) (s t : State), exec c s = .next t →
    t.params = s.params ∧ t.port.cmd = s.port.cmd ∧ t.port.arg0 = s.port.arg0 ∧ t.port.arg1 = s.port.arg1
      ∧ t.port.arg2 = s.port.arg2 ∧ t.port.arg3 = s.port.arg3 ∧ t.port.txbuf = s.port.txbuf
      ∧ t.port.txlen = s.port.txlen ∧ t.port.written = s.port.written ∧ t.agenda = s.agenda ∧ t.turnNo = s.turnNo
      ∧ t.hostPos = s.hostPos ∧ t.emitted = s.emitted

/-- 70_reset_and_hazards.md R330: the reset values the spec gives, and the parameter defaults of 00_scope.md R10 that it
fixes. -/
def Obligations.ResetValues : Prop :=
  (∀ i, (State.reset.inst i).life = .uninitialized ∧ (State.reset.inst i).xidam = 0x1FFFFFFF
      ∧ (State.reset.inst i).txq = [] ∧ (State.reset.inst i).rxf0 = [] ∧ (State.reset.inst i).tef = []
      ∧ (State.reset.inst i).fatal = none)
    ∧ State.reset.clkRef = 0 ∧ State.reset.clkOn = false ∧ State.reset.undef = false ∧ State.reset.refused = false
    ∧ State.reset.port.written.arg0 = false ∧ State.reset.port.written.arg1 = false
    ∧ State.reset.port.written.arg2 = false ∧ State.reset.port.written.arg3 = false
    ∧ State.reset.port.written.txlen = false ∧ (∀ j (h : j < 64), State.reset.port.written.txbuf[j] = false)
    ∧ State.reset.params.layout = .fdcanH7 ∧ State.reset.params.classicOverlength = .truncate
    ∧ State.reset.params.rxOverlength = .truncate ∧ State.reset.params.rxReadMayFail = true
    ∧ State.reset.params.txSubmitMayFail = false ∧ State.reset.params.unprogrammedSlot = .disabled
    ∧ State.reset.params.reconfigQueues = .empty ∧ State.reset.params.configMayFail = false
    ∧ State.reset.params.rxOverflow = .dropNew ∧ 8 ≤ State.reset.params.hwCounterWidth

/-- The invariant holds at reset. Its clause on `STATUS` holds there by the model's reset value (DESIGN CHOICE, log 6), its
clauses on the raw counters by theirs (DESIGN CHOICE, log 7). -/
def Obligations.ResetMeetsTheInvariant : Prop := State.reset.Inv

/-- Every step keeps the invariant: `clk_ref` counts the initialized instances and the clock is on exactly while it is
not 0; lives are legal; queues keep their capacities and element forms; `xidam` is fixed; a running instance holds the
fixed configuration and policy and validated timing; no remote frame is in receive FIFO 0; one report for each fatal
fault. -/
def Obligations.StepKeepsTheInvariant : Prop := ∀ s t : State, s.Inv → step s = .next t → t.Inv
end

