-- ==== Sys2Proof/Laws/State.lean ====
section
/-! SUPPORT. One lemma per field and update of State (each true by rfl), so that no proof unfolds a record update. -/

namespace Sys2Proof.Machine

variable (s : State)

/-! ### `setStatus` -/

@[simp] theorem State.setStatus_params (st : Status) : (s.setStatus st).params = s.params := rfl
@[simp] theorem State.setStatus_port (st : Status) : (s.setStatus st).port = { s.port with status := statusCode st } := rfl
@[simp] theorem State.setStatus_inst0 (st : Status) : (s.setStatus st).inst0 = s.inst0 := rfl
@[simp] theorem State.setStatus_inst1 (st : Status) : (s.setStatus st).inst1 = s.inst1 := rfl
@[simp] theorem State.setStatus_clkRef (st : Status) : (s.setStatus st).clkRef = s.clkRef := rfl
@[simp] theorem State.setStatus_clkOn (st : Status) : (s.setStatus st).clkOn = s.clkOn := rfl
@[simp] theorem State.setStatus_undef (st : Status) : (s.setStatus st).undef = s.undef := rfl
@[simp] theorem State.setStatus_undefLength (st : Status) : (s.setStatus st).undefLength = s.undefLength := rfl
@[simp] theorem State.setStatus_refused (st : Status) : (s.setStatus st).refused = s.refused := rfl
@[simp] theorem State.setStatus_refuseReason (st : Status) : (s.setStatus st).refuseReason = s.refuseReason := rfl
@[simp] theorem State.setStatus_hooks (st : Status) : (s.setStatus st).hooks = s.hooks := rfl
@[simp] theorem State.setStatus_emitted (st : Status) : (s.setStatus st).emitted = s.emitted := rfl
@[simp] theorem State.setStatus_hostPos (st : Status) : (s.setStatus st).hostPos = s.hostPos := rfl
@[simp] theorem State.setStatus_agenda (st : Status) : (s.setStatus st).agenda = s.agenda := rfl
@[simp] theorem State.setStatus_turnNo (st : Status) : (s.setStatus st).turnNo = s.turnNo := rfl

/-! ### `setRes0` -/

@[simp] theorem State.setRes0_params (v : Word) : (s.setRes0 v).params = s.params := rfl
@[simp] theorem State.setRes0_port (v : Word) : (s.setRes0 v).port = { s.port with res0 := v } := rfl
@[simp] theorem State.setRes0_inst0 (v : Word) : (s.setRes0 v).inst0 = s.inst0 := rfl
@[simp] theorem State.setRes0_inst1 (v : Word) : (s.setRes0 v).inst1 = s.inst1 := rfl
@[simp] theorem State.setRes0_clkRef (v : Word) : (s.setRes0 v).clkRef = s.clkRef := rfl
@[simp] theorem State.setRes0_clkOn (v : Word) : (s.setRes0 v).clkOn = s.clkOn := rfl
@[simp] theorem State.setRes0_undef (v : Word) : (s.setRes0 v).undef = s.undef := rfl
@[simp] theorem State.setRes0_undefLength (v : Word) : (s.setRes0 v).undefLength = s.undefLength := rfl
@[simp] theorem State.setRes0_refused (v : Word) : (s.setRes0 v).refused = s.refused := rfl
@[simp] theorem State.setRes0_refuseReason (v : Word) : (s.setRes0 v).refuseReason = s.refuseReason := rfl
@[simp] theorem State.setRes0_hooks (v : Word) : (s.setRes0 v).hooks = s.hooks := rfl
@[simp] theorem State.setRes0_emitted (v : Word) : (s.setRes0 v).emitted = s.emitted := rfl
@[simp] theorem State.setRes0_hostPos (v : Word) : (s.setRes0 v).hostPos = s.hostPos := rfl
@[simp] theorem State.setRes0_agenda (v : Word) : (s.setRes0 v).agenda = s.agenda := rfl
@[simp] theorem State.setRes0_turnNo (v : Word) : (s.setRes0 v).turnNo = s.turnNo := rfl

/-! ### `setRes1` -/

@[simp] theorem State.setRes1_params (v : Word) : (s.setRes1 v).params = s.params := rfl
@[simp] theorem State.setRes1_port (v : Word) : (s.setRes1 v).port = { s.port with res1 := v } := rfl
@[simp] theorem State.setRes1_inst0 (v : Word) : (s.setRes1 v).inst0 = s.inst0 := rfl
@[simp] theorem State.setRes1_inst1 (v : Word) : (s.setRes1 v).inst1 = s.inst1 := rfl
@[simp] theorem State.setRes1_clkRef (v : Word) : (s.setRes1 v).clkRef = s.clkRef := rfl
@[simp] theorem State.setRes1_clkOn (v : Word) : (s.setRes1 v).clkOn = s.clkOn := rfl
@[simp] theorem State.setRes1_undef (v : Word) : (s.setRes1 v).undef = s.undef := rfl
@[simp] theorem State.setRes1_undefLength (v : Word) : (s.setRes1 v).undefLength = s.undefLength := rfl
@[simp] theorem State.setRes1_refused (v : Word) : (s.setRes1 v).refused = s.refused := rfl
@[simp] theorem State.setRes1_refuseReason (v : Word) : (s.setRes1 v).refuseReason = s.refuseReason := rfl
@[simp] theorem State.setRes1_hooks (v : Word) : (s.setRes1 v).hooks = s.hooks := rfl
@[simp] theorem State.setRes1_emitted (v : Word) : (s.setRes1 v).emitted = s.emitted := rfl
@[simp] theorem State.setRes1_hostPos (v : Word) : (s.setRes1 v).hostPos = s.hostPos := rfl
@[simp] theorem State.setRes1_agenda (v : Word) : (s.setRes1 v).agenda = s.agenda := rfl
@[simp] theorem State.setRes1_turnNo (v : Word) : (s.setRes1 v).turnNo = s.turnNo := rfl

/-! ### `done` -/

@[simp] theorem State.done_params : (s.done).params = s.params := rfl
@[simp] theorem State.done_port : (s.done).port = { s.port with status := 0 } := rfl
@[simp] theorem State.done_inst0 : (s.done).inst0 = s.inst0 := rfl
@[simp] theorem State.done_inst1 : (s.done).inst1 = s.inst1 := rfl
@[simp] theorem State.done_clkRef : (s.done).clkRef = s.clkRef := rfl
@[simp] theorem State.done_clkOn : (s.done).clkOn = s.clkOn := rfl
@[simp] theorem State.done_undef : (s.done).undef = s.undef := rfl
@[simp] theorem State.done_undefLength : (s.done).undefLength = s.undefLength := rfl
@[simp] theorem State.done_refused : (s.done).refused = s.refused := rfl
@[simp] theorem State.done_refuseReason : (s.done).refuseReason = s.refuseReason := rfl
@[simp] theorem State.done_hooks : (s.done).hooks = s.hooks := rfl
@[simp] theorem State.done_emitted : (s.done).emitted = s.emitted := rfl
@[simp] theorem State.done_hostPos : (s.done).hostPos = s.hostPos := rfl
@[simp] theorem State.done_agenda : (s.done).agenda = s.agenda := rfl
@[simp] theorem State.done_turnNo : (s.done).turnNo = s.turnNo := rfl

/-! ### `refuse` -/

@[simp] theorem State.refuse_params (why : RefuseReason) : (s.refuse why).params = s.params := rfl
@[simp] theorem State.refuse_port (why : RefuseReason) : (s.refuse why).port = s.port := rfl
@[simp] theorem State.refuse_inst0 (why : RefuseReason) : (s.refuse why).inst0 = s.inst0 := rfl
@[simp] theorem State.refuse_inst1 (why : RefuseReason) : (s.refuse why).inst1 = s.inst1 := rfl
@[simp] theorem State.refuse_clkRef (why : RefuseReason) : (s.refuse why).clkRef = s.clkRef := rfl
@[simp] theorem State.refuse_clkOn (why : RefuseReason) : (s.refuse why).clkOn = s.clkOn := rfl
@[simp] theorem State.refuse_undef (why : RefuseReason) : (s.refuse why).undef = s.undef := rfl
@[simp] theorem State.refuse_undefLength (why : RefuseReason) : (s.refuse why).undefLength = s.undefLength := rfl
@[simp] theorem State.refuse_refused (why : RefuseReason) : (s.refuse why).refused = true := rfl
@[simp] theorem State.refuse_refuseReason (why : RefuseReason) : (s.refuse why).refuseReason = some why := rfl
@[simp] theorem State.refuse_hooks (why : RefuseReason) : (s.refuse why).hooks = s.hooks := rfl
@[simp] theorem State.refuse_emitted (why : RefuseReason) : (s.refuse why).emitted = s.emitted := rfl
@[simp] theorem State.refuse_hostPos (why : RefuseReason) : (s.refuse why).hostPos = s.hostPos := rfl
@[simp] theorem State.refuse_agenda (why : RefuseReason) : (s.refuse why).agenda = s.agenda := rfl
@[simp] theorem State.refuse_turnNo (why : RefuseReason) : (s.refuse why).turnNo = s.turnNo := rfl

/-! ### `raiseUndefined` -/

@[simp] theorem State.raiseUndefined_params (n : Nat) : (s.raiseUndefined n).params = s.params := rfl
@[simp] theorem State.raiseUndefined_port (n : Nat) : (s.raiseUndefined n).port = s.port := rfl
@[simp] theorem State.raiseUndefined_inst0 (n : Nat) : (s.raiseUndefined n).inst0 = s.inst0 := rfl
@[simp] theorem State.raiseUndefined_inst1 (n : Nat) : (s.raiseUndefined n).inst1 = s.inst1 := rfl
@[simp] theorem State.raiseUndefined_clkRef (n : Nat) : (s.raiseUndefined n).clkRef = s.clkRef := rfl
@[simp] theorem State.raiseUndefined_clkOn (n : Nat) : (s.raiseUndefined n).clkOn = s.clkOn := rfl
@[simp] theorem State.raiseUndefined_undef (n : Nat) : (s.raiseUndefined n).undef = true := rfl
@[simp] theorem State.raiseUndefined_undefLength (n : Nat) : (s.raiseUndefined n).undefLength = some n := rfl
@[simp] theorem State.raiseUndefined_refused (n : Nat) : (s.raiseUndefined n).refused = s.refused := rfl
@[simp] theorem State.raiseUndefined_refuseReason (n : Nat) : (s.raiseUndefined n).refuseReason = s.refuseReason := rfl
@[simp] theorem State.raiseUndefined_hooks (n : Nat) : (s.raiseUndefined n).hooks = s.hooks := rfl
@[simp] theorem State.raiseUndefined_emitted (n : Nat) : (s.raiseUndefined n).emitted = s.emitted := rfl
@[simp] theorem State.raiseUndefined_hostPos (n : Nat) : (s.raiseUndefined n).hostPos = s.hostPos := rfl
@[simp] theorem State.raiseUndefined_agenda (n : Nat) : (s.raiseUndefined n).agenda = s.agenda := rfl
@[simp] theorem State.raiseUndefined_turnNo (n : Nat) : (s.raiseUndefined n).turnNo = s.turnNo := rfl

/-! ### `hook` -/

@[simp] theorem State.hook_params (e : HookEvent) : (s.hook e).params = s.params := rfl
@[simp] theorem State.hook_port (e : HookEvent) : (s.hook e).port = s.port := rfl
@[simp] theorem State.hook_inst0 (e : HookEvent) : (s.hook e).inst0 = s.inst0 := rfl
@[simp] theorem State.hook_inst1 (e : HookEvent) : (s.hook e).inst1 = s.inst1 := rfl
@[simp] theorem State.hook_clkRef (e : HookEvent) : (s.hook e).clkRef = s.clkRef := rfl
@[simp] theorem State.hook_clkOn (e : HookEvent) : (s.hook e).clkOn = s.clkOn := rfl
@[simp] theorem State.hook_undef (e : HookEvent) : (s.hook e).undef = s.undef := rfl
@[simp] theorem State.hook_undefLength (e : HookEvent) : (s.hook e).undefLength = s.undefLength := rfl
@[simp] theorem State.hook_refused (e : HookEvent) : (s.hook e).refused = s.refused := rfl
@[simp] theorem State.hook_refuseReason (e : HookEvent) : (s.hook e).refuseReason = s.refuseReason := rfl
@[simp] theorem State.hook_hooks (e : HookEvent) : (s.hook e).hooks = s.hooks ++ [e] := rfl
@[simp] theorem State.hook_emitted (e : HookEvent) : (s.hook e).emitted = s.emitted := rfl
@[simp] theorem State.hook_hostPos (e : HookEvent) : (s.hook e).hostPos = s.hostPos := rfl
@[simp] theorem State.hook_agenda (e : HookEvent) : (s.hook e).agenda = s.agenda := rfl
@[simp] theorem State.hook_turnNo (e : HookEvent) : (s.hook e).turnNo = s.turnNo := rfl

/-! ### `present` -/

@[simp] theorem State.present_params (c : Issue) : (s.present c).params = s.params := rfl
@[simp] theorem State.present_port (c : Issue) : (s.present c).port = s.port.present c := rfl
@[simp] theorem State.present_inst0 (c : Issue) : (s.present c).inst0 = s.inst0 := rfl
@[simp] theorem State.present_inst1 (c : Issue) : (s.present c).inst1 = s.inst1 := rfl
@[simp] theorem State.present_clkRef (c : Issue) : (s.present c).clkRef = s.clkRef := rfl
@[simp] theorem State.present_clkOn (c : Issue) : (s.present c).clkOn = s.clkOn := rfl
@[simp] theorem State.present_undef (c : Issue) : (s.present c).undef = s.undef := rfl
@[simp] theorem State.present_undefLength (c : Issue) : (s.present c).undefLength = s.undefLength := rfl
@[simp] theorem State.present_refused (c : Issue) : (s.present c).refused = s.refused := rfl
@[simp] theorem State.present_refuseReason (c : Issue) : (s.present c).refuseReason = s.refuseReason := rfl
@[simp] theorem State.present_hooks (c : Issue) : (s.present c).hooks = s.hooks := rfl
@[simp] theorem State.present_emitted (c : Issue) : (s.present c).emitted = s.emitted := rfl
@[simp] theorem State.present_hostPos (c : Issue) : (s.present c).hostPos = s.hostPos := rfl
@[simp] theorem State.present_agenda (c : Issue) : (s.present c).agenda = s.agenda := rfl
@[simp] theorem State.present_turnNo (c : Issue) : (s.present c).turnNo = s.turnNo := rfl

/-! ### `setInst`: the instance records change, nothing else -/

@[simp] theorem State.setInst_params (i : InstId) (r : InstState) : (s.setInst i r).params = s.params := by cases i <;> rfl
@[simp] theorem State.setInst_port (i : InstId) (r : InstState) : (s.setInst i r).port = s.port := by cases i <;> rfl
@[simp] theorem State.setInst_clkRef (i : InstId) (r : InstState) : (s.setInst i r).clkRef = s.clkRef := by cases i <;> rfl
@[simp] theorem State.setInst_clkOn (i : InstId) (r : InstState) : (s.setInst i r).clkOn = s.clkOn := by cases i <;> rfl
@[simp] theorem State.setInst_undef (i : InstId) (r : InstState) : (s.setInst i r).undef = s.undef := by cases i <;> rfl
@[simp] theorem State.setInst_undefLength (i : InstId) (r : InstState) : (s.setInst i r).undefLength = s.undefLength := by cases i <;> rfl
@[simp] theorem State.setInst_refused (i : InstId) (r : InstState) : (s.setInst i r).refused = s.refused := by cases i <;> rfl
@[simp] theorem State.setInst_refuseReason (i : InstId) (r : InstState) : (s.setInst i r).refuseReason = s.refuseReason := by cases i <;> rfl
@[simp] theorem State.setInst_hooks (i : InstId) (r : InstState) : (s.setInst i r).hooks = s.hooks := by cases i <;> rfl
@[simp] theorem State.setInst_emitted (i : InstId) (r : InstState) : (s.setInst i r).emitted = s.emitted := by cases i <;> rfl
@[simp] theorem State.setInst_hostPos (i : InstId) (r : InstState) : (s.setInst i r).hostPos = s.hostPos := by cases i <;> rfl
@[simp] theorem State.setInst_agenda (i : InstId) (r : InstState) : (s.setInst i r).agenda = s.agenda := by cases i <;> rfl
@[simp] theorem State.setInst_turnNo (i : InstId) (r : InstState) : (s.setInst i r).turnNo = s.turnNo := by cases i <;> rfl

@[simp] theorem State.setInst_i0_inst0 (r : InstState) : (s.setInst .i0 r).inst0 = r := rfl
@[simp] theorem State.setInst_i0_inst1 (r : InstState) : (s.setInst .i0 r).inst1 = s.inst1 := rfl
@[simp] theorem State.setInst_i1_inst0 (r : InstState) : (s.setInst .i1 r).inst0 = s.inst0 := rfl
@[simp] theorem State.setInst_i1_inst1 (r : InstState) : (s.setInst .i1 r).inst1 = r := rfl

/-! ### `raiseFatal` -/

@[simp] theorem State.raiseFatal_params (i : InstId) (kind : FatalKind) (code : Word) :
    (s.raiseFatal i kind code).params = s.params := by cases i <;> rfl
@[simp] theorem State.raiseFatal_port (i : InstId) (kind : FatalKind) (code : Word) :
    (s.raiseFatal i kind code).port = s.port := by cases i <;> rfl
@[simp] theorem State.raiseFatal_clkRef (i : InstId) (kind : FatalKind) (code : Word) :
    (s.raiseFatal i kind code).clkRef = s.clkRef := by cases i <;> rfl
@[simp] theorem State.raiseFatal_clkOn (i : InstId) (kind : FatalKind) (code : Word) :
    (s.raiseFatal i kind code).clkOn = s.clkOn := by cases i <;> rfl
@[simp] theorem State.raiseFatal_undef (i : InstId) (kind : FatalKind) (code : Word) :
    (s.raiseFatal i kind code).undef = s.undef := by cases i <;> rfl
@[simp] theorem State.raiseFatal_undefLength (i : InstId) (kind : FatalKind) (code : Word) :
    (s.raiseFatal i kind code).undefLength = s.undefLength := by cases i <;> rfl
@[simp] theorem State.raiseFatal_refused (i : InstId) (kind : FatalKind) (code : Word) :
    (s.raiseFatal i kind code).refused = s.refused := by cases i <;> rfl
@[simp] theorem State.raiseFatal_refuseReason (i : InstId) (kind : FatalKind) (code : Word) :
    (s.raiseFatal i kind code).refuseReason = s.refuseReason := by cases i <;> rfl
@[simp] theorem State.raiseFatal_hooks (i : InstId) (kind : FatalKind) (code : Word) :
    (s.raiseFatal i kind code).hooks = s.hooks ++ [.reportFatal kind code] := by cases i <;> rfl
@[simp] theorem State.raiseFatal_emitted (i : InstId) (kind : FatalKind) (code : Word) :
    (s.raiseFatal i kind code).emitted = s.emitted := by cases i <;> rfl
@[simp] theorem State.raiseFatal_hostPos (i : InstId) (kind : FatalKind) (code : Word) :
    (s.raiseFatal i kind code).hostPos = s.hostPos := by cases i <;> rfl
@[simp] theorem State.raiseFatal_agenda (i : InstId) (kind : FatalKind) (code : Word) :
    (s.raiseFatal i kind code).agenda = s.agenda := by cases i <;> rfl
@[simp] theorem State.raiseFatal_turnNo (i : InstId) (kind : FatalKind) (code : Word) :
    (s.raiseFatal i kind code).turnNo = s.turnNo := by cases i <;> rfl

/-! ### `deliver`: only the port changes -/

@[simp] theorem State.deliver_params (r : DecResult) : (s.deliver r).params = s.params := by cases r <;> rfl
@[simp] theorem State.deliver_inst0 (r : DecResult) : (s.deliver r).inst0 = s.inst0 := by cases r <;> rfl
@[simp] theorem State.deliver_inst1 (r : DecResult) : (s.deliver r).inst1 = s.inst1 := by cases r <;> rfl
@[simp] theorem State.deliver_clkRef (r : DecResult) : (s.deliver r).clkRef = s.clkRef := by cases r <;> rfl
@[simp] theorem State.deliver_clkOn (r : DecResult) : (s.deliver r).clkOn = s.clkOn := by cases r <;> rfl
@[simp] theorem State.deliver_undef (r : DecResult) : (s.deliver r).undef = s.undef := by cases r <;> rfl
@[simp] theorem State.deliver_undefLength (r : DecResult) : (s.deliver r).undefLength = s.undefLength := by cases r <;> rfl
@[simp] theorem State.deliver_refused (r : DecResult) : (s.deliver r).refused = s.refused := by cases r <;> rfl
@[simp] theorem State.deliver_refuseReason (r : DecResult) : (s.deliver r).refuseReason = s.refuseReason := by cases r <;> rfl
@[simp] theorem State.deliver_hooks (r : DecResult) : (s.deliver r).hooks = s.hooks := by cases r <;> rfl
@[simp] theorem State.deliver_emitted (r : DecResult) : (s.deliver r).emitted = s.emitted := by cases r <;> rfl
@[simp] theorem State.deliver_hostPos (r : DecResult) : (s.deliver r).hostPos = s.hostPos := by cases r <;> rfl
@[simp] theorem State.deliver_agenda (r : DecResult) : (s.deliver r).agenda = s.agenda := by cases r <;> rfl
@[simp] theorem State.deliver_turnNo (r : DecResult) : (s.deliver r).turnNo = s.turnNo := by cases r <;> rfl

/-! ### `beginTurn`: the agenda, the turn number and the raw counters change, nothing else -/

@[simp] theorem State.beginTurn_params (rest : List Turn) : (s.beginTurn rest).params = s.params := rfl
@[simp] theorem State.beginTurn_port (rest : List Turn) : (s.beginTurn rest).port = s.port := rfl
@[simp] theorem State.beginTurn_clkRef (rest : List Turn) : (s.beginTurn rest).clkRef = s.clkRef := rfl
@[simp] theorem State.beginTurn_clkOn (rest : List Turn) : (s.beginTurn rest).clkOn = s.clkOn := rfl
@[simp] theorem State.beginTurn_undef (rest : List Turn) : (s.beginTurn rest).undef = s.undef := rfl
@[simp] theorem State.beginTurn_undefLength (rest : List Turn) : (s.beginTurn rest).undefLength = s.undefLength := rfl
@[simp] theorem State.beginTurn_refused (rest : List Turn) : (s.beginTurn rest).refused = s.refused := rfl
@[simp] theorem State.beginTurn_refuseReason (rest : List Turn) : (s.beginTurn rest).refuseReason = s.refuseReason := rfl
@[simp] theorem State.beginTurn_hooks (rest : List Turn) : (s.beginTurn rest).hooks = s.hooks := rfl
@[simp] theorem State.beginTurn_emitted (rest : List Turn) : (s.beginTurn rest).emitted = s.emitted := rfl
@[simp] theorem State.beginTurn_hostPos (rest : List Turn) : (s.beginTurn rest).hostPos = s.hostPos := rfl
@[simp] theorem State.beginTurn_agenda (rest : List Turn) : (s.beginTurn rest).agenda = rest := rfl
@[simp] theorem State.beginTurn_turnNo (rest : List Turn) : (s.beginTurn rest).turnNo = s.turnNo + 1 := rfl

end Sys2Proof.Machine
end

