-- ==== Sys2Proof/Laws/Ops.lean ====
section
/-! SUPPORT. One spec lemma per shared operation of Machine/Ops.lean and Machine/Operands.lean. -/

namespace Sys2Proof.Machine

variable (s : State) (i j : InstId)

/-! ### Instance access -/

@[simp] theorem State.inst_i0 : s.inst .i0 = s.inst0 := rfl
@[simp] theorem State.inst_i1 : s.inst .i1 = s.inst1 := rfl

@[simp] theorem State.inst_setInst_self (r : InstState) : (s.setInst i r).inst i = r := by cases i <;> rfl

theorem State.inst_setInst_ne (r : InstState) (h : j ≠ i) : (s.setInst i r).inst j = s.inst j := by
  cases i <;> cases j <;> first | rfl | exact absurd rfl h

@[simp] theorem State.setInst_setInst (r r' : InstState) : (s.setInst i r).setInst i r' = s.setInst i r' := by
  cases i <;> rfl

@[simp] theorem State.setInst_inst : s.setInst i (s.inst i) = s := by cases i <;> rfl

@[simp] theorem State.inst_setStatus (st : Status) : (s.setStatus st).inst i = s.inst i := by cases i <;> rfl
@[simp] theorem State.inst_setRes0 (v : Word) : (s.setRes0 v).inst i = s.inst i := by cases i <;> rfl
@[simp] theorem State.inst_setRes1 (v : Word) : (s.setRes1 v).inst i = s.inst i := by cases i <;> rfl
@[simp] theorem State.inst_done : s.done.inst i = s.inst i := by cases i <;> rfl
@[simp] theorem State.inst_refuse (why : RefuseReason) : (s.refuse why).inst i = s.inst i := by cases i <;> rfl
@[simp] theorem State.inst_raiseUndefined (n : Nat) : (s.raiseUndefined n).inst i = s.inst i := by cases i <;> rfl
@[simp] theorem State.inst_hook (e : HookEvent) : (s.hook e).inst i = s.inst i := by cases i <;> rfl
@[simp] theorem State.inst_present (c : Issue) : (s.present c).inst i = s.inst i := by cases i <;> rfl
@[simp] theorem State.inst_deliver (r : DecResult) : (s.deliver r).inst i = s.inst i := by
  cases r <;> cases i <;> rfl

theorem State.running_iff : s.running i = true ↔ (s.inst i).life = .running := by simp [State.running]

theorem State.not_running_iff : s.running i = false ↔ (s.inst i).life ≠ .running := by simp [State.running]

/-! ### The fatal fault -/

/-- `raiseFatal` records the fault, halts its instance and keeps everything else of the instance. -/
@[simp] theorem State.raiseFatal_inst_self (kind : FatalKind) (code : Word) :
    (s.raiseFatal i kind code).inst i
      = { s.inst i with fatal := some { kind := kind, code := code }, life := .halted } := by
  cases i <;> rfl

theorem State.raiseFatal_inst_ne (kind : FatalKind) (code : Word) (h : j ≠ i) :
    (s.raiseFatal i kind code).inst j = s.inst j := by
  cases i <;> cases j <;> first | rfl | exact absurd rfl h

/-! ### The host's stop -/

/-- The host has no further step exactly when one of the three outcomes is recorded (60_exceptions.md R306, R307,
R309). -/
theorem State.hostStop?_eq_none : s.hostStop? = none ↔
    s.inst0.fatal = none ∧ s.inst1.fatal = none ∧ s.undef = false ∧ s.refused = false := by
  unfold State.hostStop?
  cases s.inst0.fatal <;> cases s.inst1.fatal <;> cases s.undef <;> cases s.refused <;> simp

/-! ### The start of a turn -/

/-- A turn's start changes nothing of an instance but its raw counters, which stay within their width. -/
theorem State.beginTurn_inst (rest : List Turn) : ∃ a b,
    (s.beginTurn rest).inst i = { s.inst i with recRaw := a, tecRaw := b }
      ∧ a < 2 ^ s.params.hwCounterWidth ∧ b < 2 ^ s.params.hwCounterWidth := by
  have h : ∀ n, n % 2 ^ s.params.hwCounterWidth < 2 ^ s.params.hwCounterWidth :=
    fun n => Nat.mod_lt _ (Nat.two_pow_pos _)
  cases i <;> exact ⟨_, _, rfl, h _, h _⟩

/-! ### Operands -/

theorem State.arg0?_written (h : s.port.written.arg0 = true) : s.arg0? = some s.port.arg0 := by simp [State.arg0?, h]
theorem State.arg0?_unwritten (h : s.port.written.arg0 = false) : s.arg0? = none := by simp [State.arg0?, h]
theorem State.arg1?_written (h : s.port.written.arg1 = true) : s.arg1? = some s.port.arg1 := by simp [State.arg1?, h]
theorem State.arg1?_unwritten (h : s.port.written.arg1 = false) : s.arg1? = none := by simp [State.arg1?, h]
theorem State.arg2?_written (h : s.port.written.arg2 = true) : s.arg2? = some s.port.arg2 := by simp [State.arg2?, h]
theorem State.arg2?_unwritten (h : s.port.written.arg2 = false) : s.arg2? = none := by simp [State.arg2?, h]
theorem State.arg3?_written (h : s.port.written.arg3 = true) : s.arg3? = some s.port.arg3 := by simp [State.arg3?, h]
theorem State.arg3?_unwritten (h : s.port.written.arg3 = false) : s.arg3? = none := by simp [State.arg3?, h]

/-- A written prefix: every byte below `k` has been written (10_state.md R22). -/
theorem take_all_id {n : Nat} (marks : Vector Bool n) (k : Nat) :
    (marks.toList.take k).all id = true ↔ ∀ j (h : j < n), j < k → marks[j] = true := by
  rw [List.all_eq_true]
  constructor
  · intro h j hj hk
    apply h
    rw [List.mem_take_iff_getElem]
    exact ⟨j, by simp [hj, hk], by simp⟩
  · intro h b hb
    obtain ⟨j, hj, rfl⟩ := List.mem_take_iff_getElem.mp hb
    simp at hj ⊢
    exact h j hj.2 hj.1

/-- The payload a command reads is `TXBUF[0:TXLEN]` when the host wrote all of it. -/
theorem State.payload?_written (hl : s.port.written.txlen = true)
    (hb : ∀ j (h : j < 64), j < s.port.txlen.val → s.port.written.txbuf[j] = true) :
    s.payload? = some (s.port.txbuf.toList.take s.port.txlen.val) := by
  simp [State.payload?, hl, (take_all_id _ _).mpr hb]

theorem State.payload?_unwritten (h : s.port.written.txlen = false
      ∨ ∃ j, ∃ h : j < 64, j < s.port.txlen.val ∧ s.port.written.txbuf[j] = false) :
    s.payload? = none := by
  have hn : (s.port.written.txlen && (s.port.written.txbuf.toList.take s.port.txlen.val).all id) = false := by
    cases h with
    | inl h => simp [h]
    | inr h =>
      obtain ⟨j, hj, hk, hf⟩ := h
      rw [Bool.and_eq_false_iff]
      right
      rw [← Bool.not_eq_true, take_all_id]
      intro hall
      exact absurd (hall j hj hk) (by simp [hf])
  simp [State.payload?, hn]

/-- A payload has the length the host gave it. -/
theorem State.payload?_length {data : List Byte} (h : s.payload? = some data) :
    data.length = s.port.txlen.val := by
  unfold State.payload? at h
  split at h
  · cases h
    have := s.port.txlen.isLt
    simp
    omega
  · cases h

/-- Bytes below the written length are the written ones, the others keep their values. -/
theorem overwrite_getElem {n : Nat} (buf : Vector Byte n) (bytes : List Byte) (j : Nat) (h : j < n) :
    (overwrite buf bytes)[j] = bytes[j]?.getD buf[j] := by
  simp [overwrite]

end Sys2Proof.Machine
end

