-- ==== Sys2Proof/Laws/Codec.lean ====
section
/-! SUPPORT. The bits of the field helpers of Decode.lean, and the small lemmas of the codec. -/

namespace Sys2Proof

@[simp] theorem getLsbD_flagBit (b : Bool) (n k : Nat) :
    (flagBit b n).getLsbD k = (b && decide (k = n) && decide (n < 32)) := by
  unfold flagBit
  cases b
  · simp
  · rw [if_pos rfl, BitVec.getLsbD_shiftLeft, BitVec.getLsbD_one]
    by_cases h : k = n
    · subst h; simp
    · by_cases h1 : k < n
      · simp [h, h1]
      · have : k - n ≠ 0 := by omega
        simp [h, this]

@[simp] theorem getLsbD_placed {w : Nat} (v : BitVec w) (n k : Nat) :
    (placed v n).getLsbD k = (decide (k < 32) && decide (n ≤ k) && v.getLsbD (k - n)) := by
  unfold placed
  rw [BitVec.getLsbD_shiftLeft, BitVec.getLsbD_setWidth]
  by_cases h : k < 32 <;> by_cases h1 : n ≤ k
  · have h2 : k - n < 32 := by omega
    simp [h, h1, h2]
  · simp [h, h1, Nat.lt_of_not_le h1]
  · simp [h]
  · simp [h]

@[simp] theorem getLsbD_field (v : Word) (lo len k : Nat) :
    (field v lo len).getLsbD k = (decide (k < len) && v.getLsbD (lo + k)) := by
  simp [field]

@[simp] theorem getElem_flagBit (b : Bool) (n k : Nat) (h : k < 32) :
    (flagBit b n)[k] = (b && decide (k = n) && decide (n < 32)) := by
  rw [← BitVec.getLsbD_eq_getElem, getLsbD_flagBit]

@[simp] theorem getElem_placed {w : Nat} (v : BitVec w) (n k : Nat) (h : k < 32) :
    (placed v n)[k] = (decide (n ≤ k) && v.getLsbD (k - n)) := by
  rw [← BitVec.getLsbD_eq_getElem, getLsbD_placed]
  simp [h]

@[simp] theorem getElem_field (v : Word) (lo len k : Nat) (h : k < len) :
    (field v lo len)[k] = v.getLsbD (lo + k) := by
  rw [← BitVec.getLsbD_eq_getElem, getLsbD_field]
  simp [h]

/-- Taking the low 11 bits of a word is masking with `STD_ID_MASK` (00_scope.md R9). -/
theorem setWidth_field_std (v : Word) : (field v 0 11).setWidth 32 = v &&& 0x7FF := by
  apply BitVec.eq_of_toNat_eq
  have h := Nat.and_two_pow_sub_one_eq_mod v.toNat 11
  have h2 : v.toNat % 2048 < 4294967296 := by omega
  simpa [field, Nat.mod_eq_of_lt h2] using h.symm

/-- Taking the low 29 bits of a word is masking with `EXT_ID_MASK` (00_scope.md R9). -/
theorem setWidth_field_ext (v : Word) : (field v 0 29).setWidth 32 = v &&& 0x1FFFFFFF := by
  apply BitVec.eq_of_toNat_eq
  have h := Nat.and_two_pow_sub_one_eq_mod v.toNat 29
  have h2 : v.toNat % 536870912 < 4294967296 := by omega
  simpa [field, Nat.mod_eq_of_lt h2] using h.symm

end Sys2Proof

namespace Sys2Proof.Machine

@[simp] theorem identXtd_identOf (xtd : Bool) (id : Word) : identXtd (identOf xtd id) = xtd := by
  cases xtd <;> rfl

/-- `enc` has three outcomes, by the length alone (41_frame_encoder.md R141). -/
theorem enc_header {p : Params} {id : Word} {xtd rtr : Bool} {payload : List Byte} {h : TxHeader}
    (he : enc p id xtd rtr payload = .header h) :
    ∃ c, bytesToDlc payload.length = some c ∧ (8 < payload.length → p.classicOverlength ≠ .reject)
      ∧ h = { ident := identOf xtd id, rtr := rtr, esi := false, dlc := c, brs := false, fdf := false, efc := true
              mm := 0 } := by
  unfold enc at he
  split at he
  · cases he
  · rename_i c hc
    split at he
    · cases he
    · rename_i hn
      cases he
      exact ⟨c, hc, fun h8 hr => hn ⟨h8, hr⟩, rfl⟩

/-- The undefined-operation fault is raised on a length outside `LEN_SET`, and records it (41_frame_encoder.md R141). -/
theorem enc_undefinedLength {p : Params} {id : Word} {xtd rtr : Bool} {payload : List Byte} {n : Nat}
    (he : enc p id xtd rtr payload = .undefinedLength n) : bytesToDlc n = none := by
  unfold enc at he
  split at he
  · cases he
    assumption
  · split at he <;> cases he

/-- A delivered payload is at most 8 bytes (42_frame_decoder.md R173). -/
theorem deliveredBytes_le (c : BitVec 4) : deliveredBytes c ≤ 8 := Nat.min_le_right _ _

/-- `dec` gives a frame unless the code is over length and over length faults (42_frame_decoder.md R171). -/
theorem dec_frame {p : Params} {r0 r1 : Word} {data : List Byte}
    (h : dlcToBytes (wordDlc p.layout r1) ≤ 8 ∨ p.rxOverlength = .truncate) :
    dec p r0 r1 data
      = .frame
          { id := identWord (wordIdent p.layout r0)
            isExtended := identXtd (wordIdent p.layout r0)
            isRemote := wordRtr p.layout r0
            payload := data.take (deliveredBytes (wordDlc p.layout r1)) } := by
  unfold dec
  rw [if_neg]
  rintro ⟨h1, h2⟩
  cases h with
  | inl h => exact absurd h1 (by simpa [Config.maxRxPayload] using h)
  | inr h => rw [h] at h2; cases h2

theorem dec_overlength {p : Params} {r0 r1 : Word} {data : List Byte}
    (h : 8 < dlcToBytes (wordDlc p.layout r1)) (hf : p.rxOverlength = .fault) :
    dec p r0 r1 data = .overlength (dlcToBytes (wordDlc p.layout r1)) := by
  unfold dec
  rw [if_pos ⟨h, hf⟩]

end Sys2Proof.Machine
end

