-- ==== Sys2Proof/Laws/Bus.lean ====
section
/-! SUPPORT. What a bus step can do, said once (45_bus_agent.md R270, R273, R274, R276). -/

namespace Sys2Proof.Machine

variable {s : State} {i : InstId} {bf : BusFrame}

/-! ### The queues of an instance -/

theorem store_room (o : RxOverflow) (e : RxEntry) (r : InstState) (h : r.rxf0.length < 64) :
    r.store o e = { r with rxf0 := r.rxf0 ++ [e] } := if_pos h

theorem store_dropNew (e : RxEntry) (r : InstState) (h : ¬ r.rxf0.length < 64) : r.store .dropNew e = r := if_neg h

theorem store_overwrite (e : RxEntry) (r : InstState) (h : ¬ r.rxf0.length < 64) :
    r.store .overwrite e = { r with rxf0 := r.rxf0.tail ++ [e] } := if_neg h

theorem logEvent_logged (L : Layout) (e : TxElement) (r : InstState) (h : wordEfc L e.t1 = true)
    (hf : r.tef.length < 32) : r.logEvent L e = { r with tef := r.tef ++ [{ t0 := e.t0, t1 := e.t1 }] } := by
  have hf' : fill r.tef < Config.tefDepth := hf
  unfold InstState.logEvent
  rw [if_pos (by simp [h, hf'])]
  rfl

theorem logEvent_discarded (L : Layout) (e : TxElement) (r : InstState)
    (h : wordEfc L e.t1 = false ∨ 32 ≤ r.tef.length) : r.logEvent L e = r := by
  unfold InstState.logEvent
  rw [if_neg]
  cases h with
  | inl h => simp [h]
  | inr h =>
    have hf : ¬ fill r.tef < Config.tefDepth := Nat.not_lt.mpr h
    simp [hf]

/-! ### The acceptance function -/

/-- A data frame is stored when a slot matches or the policy accepts it for FIFO 0 (43_filter_table.md R208). -/
theorem judge_dataFrame_stored (r : InstState) (a : Ident) : (r.judge a false).stored
    = ((r.firstMatch a).isSome || nonMatchPolicy r.gfp (identXtd a) == .acceptFifo0) := by
  simp only [InstState.judge, Bool.false_and, Bool.false_eq_true, if_false]
  cases r.firstMatch a with
  | none => cases nonMatchPolicy r.gfp (identXtd a) <;> rfl
  | some k => rfl

/-! ### The two bus steps -/

/-- BUS_TX touches the transmit queue, the TX event FIFO and the emitted frames, nothing else: the queue loses its head
or stays, and nothing happens on an instance that is not running. -/
theorem busTx_frame (i : InstId) (s : State) : ∃ q v out,
    busTx i s = { s.setInst i { s.inst i with txq := q, tef := v } with emitted := out }
      ∧ (q = (s.inst i).txq ∨ q = (s.inst i).txq.tail) ∧ v.length ≤ max 32 (s.inst i).tef.length
      ∧ ((s.inst i).life ≠ .running → q = (s.inst i).txq ∧ v = (s.inst i).tef) := by
  have hself : s = { s.setInst i { s.inst i with txq := (s.inst i).txq, tef := (s.inst i).tef } with
      emitted := s.emitted } := by cases i <;> rfl
  by_cases hr : (s.inst i).life = .running
  · simp only [busTx, (State.running_iff s i).mpr hr, if_true]
    split
    · exact ⟨_, _, _, hself, .inl rfl, by omega, fun _ => ⟨rfl, rfl⟩⟩
    · rename_i e rest hq
      have ht : rest = (s.inst i).txq.tail := by rw [hq]; rfl
      by_cases hl : wordEfc s.params.layout e.t1 = false ∨ 32 ≤ (s.inst i).tef.length
      · rw [logEvent_discarded _ _ { s.inst i with txq := rest } hl]
        exact ⟨rest, (s.inst i).tef, _, rfl, .inr ht, by omega, fun h => absurd hr h⟩
      · simp only [not_or, Bool.not_eq_false, Nat.not_le] at hl
        rw [logEvent_logged _ _ { s.inst i with txq := rest } hl.1 hl.2]
        exact ⟨rest, _, _, rfl, .inr ht, by simp; omega, fun h => absurd hr h⟩
  · refine ⟨(s.inst i).txq, (s.inst i).tef, s.emitted, ?_, .inl rfl, by omega, fun _ => ⟨rfl, rfl⟩⟩
    simp only [busTx, (State.not_running_iff s i).mpr hr]
    exact hself

/-- BUS_RX touches receive FIFO 0, nothing else: what it adds is the arriving frame's entry, and it adds it only when a
legal frame is accepted for FIFO 0 on a running instance. -/
theorem busRx_frame (i : InstId) (bf : BusFrame) (s : State) : ∃ q,
    busRx i bf s = s.setInst i { s.inst i with rxf0 := q } ∧ q.length ≤ max 64 (s.inst i).rxf0.length
      ∧ ((s.inst i).life ≠ .running → q = (s.inst i).rxf0)
      ∧ ∀ e ∈ q, e ∈ (s.inst i).rxf0
          ∨ (((s.inst i).judge bf.ident bf.rtr).stored = true ∧ bf.legal = true
            ∧ e = s.entryOf ((s.inst i).judge bf.ident bf.rtr) bf) := by
  have hself : s = s.setInst i { s.inst i with rxf0 := (s.inst i).rxf0 } := by cases i <;> rfl
  have hkeep : ∀ e ∈ (s.inst i).rxf0, e ∈ (s.inst i).rxf0
      ∨ (((s.inst i).judge bf.ident bf.rtr).stored = true ∧ bf.legal = true
        ∧ e = s.entryOf ((s.inst i).judge bf.ident bf.rtr) bf) := fun _ h => .inl h
  unfold busRx
  split
  · rename_i h
    simp only [Bool.and_eq_true] at h
    have hr := (State.running_iff _ _).mp h.1
    split
    · rename_i hs
      generalize hE : s.entryOf _ bf = E
      have hadd : ∀ q : List RxEntry, (∀ e ∈ q, e ∈ (s.inst i).rxf0) → ∀ e ∈ q ++ [E], e ∈ (s.inst i).rxf0
          ∨ (((s.inst i).judge bf.ident bf.rtr).stored = true ∧ bf.legal = true ∧ e = E) := by
        intro q hq e he
        rw [List.mem_append, List.mem_singleton] at he
        exact he.imp (hq e) fun he => ⟨hs, h.2, he⟩
      by_cases hf : (s.inst i).rxf0.length < 64
      · rw [store_room _ _ _ hf]
        exact ⟨_, rfl, by simp; omega, fun hn => absurd hr hn, hadd _ fun _ h => h⟩
      · cases s.params.rxOverflow with
        | dropNew =>
          rw [store_dropNew _ _ hf]
          exact ⟨(s.inst i).rxf0, rfl, by omega, fun _ => rfl, fun _ h => .inl h⟩
        | overwrite =>
          rw [store_overwrite _ _ hf]
          exact ⟨_, rfl, by simp; omega, fun hn => absurd hr hn, hadd _ fun _ h => List.mem_of_mem_tail h⟩
    · exact ⟨_, hself, by omega, fun _ => rfl, hkeep⟩
  · exact ⟨_, hself, by omega, fun _ => rfl, hkeep⟩

end Sys2Proof.Machine
end

