-- ==== Sys2Proof/Laws/Decode.lean ====
section
/-! SUPPORT. The command word: every term stands for a legal word, and no word belongs to two rows of the opcode
table. -/

namespace Sys2Proof

/-- A term of `Instr` is a legal command word: reserved bits clear, a known opcode, no unused flag (30_encoding.md
R93). -/
theorem Instr.raw_wf (i : Instr) : i.raw.wf = true := by
  cases i with
  | dlcEnc => rfl
  | dlcDec => rfl
  | frameEnc xtd rtr => cases xtd <;> cases rtr <;> rfl
  | frameDec => rfl
  | write i xtd rtr => cases i <;> cases xtd <;> cases rtr <;> rfl
  | read i => cases i <;> rfl
  | filterProg i xtd => cases i <;> cases xtd <;> rfl
  | accept i xtd rtr => cases i <;> cases xtd <;> cases rtr <;> rfl
  | txFree i => cases i <;> rfl
  | init i => cases i <;> rfl
  | deinit i => cases i <;> rfl
  | setBitTiming i => cases i <;> rfl
  | rxErr i => cases i <;> rfl
  | txErr i => cases i <;> rfl

/-- The 14 rows of spec/opcode_table.json. -/
def opcodeRows : List OpcodeRow :=
  [ Instr.dlcEnc.row, Instr.dlcDec.row, (Instr.frameEnc false false).row, Instr.frameDec.row,
    (Instr.write .i0 false false).row, (Instr.read .i0).row, (Instr.filterProg .i0 false).row ]
    ++ [ (Instr.accept .i0 false false).row, (Instr.txFree .i0).row, (Instr.init .i0).row, (Instr.deinit .i0).row,
      (Instr.setBitTiming .i0).row, (Instr.rxErr .i0).row, (Instr.txErr .i0).row ]

/-- Two rows differ in a bit that both of them fix. -/
def OpcodeRow.disjoint (a b : OpcodeRow) : Bool := (a.pattern ^^^ b.pattern) &&& a.mask &&& b.mask != 0

/-- No command word matches two rows. -/
theorem opcodeRows_disjoint : opcodeRows.Pairwise fun a b => a.disjoint b = true := by decide

end Sys2Proof
end

