-- ==== Sys2Proof/Laws/Exec.lean ====
section
/-! SUPPORT. What a command can do, said once: `exec` always answers a next state, and that state is one of the effects
below, by command. Proofs about all commands cite `exec_effect` and do not unfold the meanings. -/

namespace Sys2Proof.Machine

variable {s : State} {i : InstId}

/-! ### Shared operations -/

/-- Only result fields differ: the ports the block writes (10_state.md R20). -/
structure Port.Answers (p q : Port) : Prop where
  fields : q = { p with
    res0 := q.res0, res1 := q.res1, rxbuf := q.rxbuf, rxlen := q.rxlen, status := q.status }
  status : q.status.toNat ≤ 5

theorem statusCode_le (st : Status) : (statusCode st).toNat ≤ 5 := by cases st <;> decide

/-- Delivering a decode result writes result fields only. -/
theorem State.deliver_answers (r : DecResult) :
    ∃ q, s.deliver r = { s with port := q } ∧ s.port.Answers q := by
  cases r with
  | overlength n => exact ⟨_, rfl, rfl, statusCode_le _⟩
  | frame f => exact ⟨_, rfl, rfl, statusCode_le _⟩

/-- Submitting an element ends in one of three ways (41_frame_encoder.md R150 to R152). -/
theorem State.submit_cases (e : TxElement) :
    (∃ q, s.submit i e = { s with port := q } ∧ s.port.Answers q ∧ q.rxbuf = s.port.rxbuf ∧ q.rxlen = s.port.rxlen)
      ∨ ((s.inst i).txq.length ≠ 32 ∧ s.submit i e = ((s.setInst i ((s.inst i).pushTx e)).setRes0 0).done) := by
  unfold State.submit
  split
  · exact .inl ⟨_, rfl, ⟨rfl, statusCode_le _⟩, rfl, rfl⟩
  · rename_i h
    split
    · exact .inl ⟨_, rfl, ⟨rfl, statusCode_le _⟩, rfl, rfl⟩
    · exact .inr ⟨h, rfl⟩

/-! ### The configuration sequence -/

/-- The instance record a finished configuration leaves (44_controller_context.md R232). -/
def State.configuredInst (s : State) (i : InstId) (t : Timing) : InstState :=
  { (s.reconfigureQueues { s.inst i with life := .configured, timing := t, cfg := cfgConst }).baseline with
    gfp := gfpConst, life := .running }

/-- Reconfiguring keeps everything but the queues, and keeps or empties each queue (44_controller_context.md R241). -/
theorem State.reconfigureQueues_eq (r : InstState) : ∃ a b c,
    s.reconfigureQueues r = { r with txq := a, rxf0 := b, tef := c }
      ∧ (a = [] ∨ a = r.txq) ∧ (b = [] ∨ b = r.rxf0) ∧ (c = [] ∨ c = r.tef)
      ∧ (s.params.reconfigQueues = .empty → a = [] ∧ b = [] ∧ c = []) := by
  unfold State.reconfigureQueues
  cases h : s.params.reconfigQueues with
  | empty => exact ⟨[], [], [], rfl, .inl rfl, .inl rfl, .inl rfl, fun _ => ⟨rfl, rfl, rfl⟩⟩
  | emptyOrKept =>
    refine ⟨_, _, _, rfl, ?_, ?_, ?_, fun h => by cases h⟩
    · cases s.drawBool 1 <;> simp
    · cases s.drawBool 2 <;> simp
    · cases s.drawBool 3 <;> simp

theorem configure_invalid {t : Timing} (h : validTiming s.params.timingRange t = false) :
    (configure i t s).finish = s.raiseFatal i .configurationFault codeTiming := by
  unfold configure
  simp only [h]
  cases i <;> rfl

theorem configure_failed {t : Timing} (h : validTiming s.params.timingRange t = true) (hf : s.configFails = true) :
    (configure i t s).finish
      = (s.setInst i { s.inst i with timing := t, cfg := cfgConst }).raiseFatal i .hardwareFault (s.drawWord 0) := by
  unfold configure
  simp only [h, hf]
  cases i <;> rfl

theorem configure_done {t : Timing} (h : validTiming s.params.timingRange t = true) (hf : s.configFails = false) :
    (configure i t s).finish = (s.setInst i (s.configuredInst i t)).done := by
  unfold configure
  simp only [h, hf]
  cases i <;> rfl

/-- A configuration ends in one of three ways (44_controller_context.md R232). -/
theorem configure_cases (i : InstId) (t : Timing) (s : State) :
    (configure i t s).finish = s.raiseFatal i .configurationFault codeTiming
      ∨ (s.params.configMayFail = true
          ∧ (configure i t s).finish
            = (s.setInst i { s.inst i with timing := t, cfg := cfgConst }).raiseFatal i .hardwareFault (s.drawWord 0))
      ∨ (validTiming s.params.timingRange t = true
          ∧ (configure i t s).finish = (s.setInst i (s.configuredInst i t)).done) := by
  cases hv : validTiming s.params.timingRange t with
  | false => exact .inl (configure_invalid hv)
  | true =>
    cases hf : s.configFails with
    | false => exact .inr (.inr ⟨rfl, configure_done hv hf⟩)
    | true =>
      have hm : s.params.configMayFail = true := (Bool.and_eq_true_iff.mp hf).1
      exact .inr (.inl ⟨hm, configure_failed hv hf⟩)

/-! ### The effects of a command -/

/-- Every effect of a command, with the condition under which the command has it. -/
inductive Effect (s : State) : Instr → State → Prop where
  | refuse (c : Instr) (why : RefuseReason) : Effect s c (s.refuse why)
  | dlcEncUndefined (n : Nat) (h : bytesToDlc n = none) : Effect s .dlcEnc (s.raiseUndefined n)
  | frameEncUndefined (xtd rtr : Bool) (n : Nat) (h : bytesToDlc n = none) :
      Effect s (.frameEnc xtd rtr) (s.raiseUndefined n)
  | writeUndefined (i : InstId) (xtd rtr : Bool) (n : Nat) (h : bytesToDlc n = none)
      (hr : (s.inst i).life = .running) : Effect s (.write i xtd rtr) (s.raiseUndefined n)
  /-- A typed result that changes no block state and delivers no frame. -/
  | answer (c : Instr) (q : Port) (h : s.port.Answers q) (hb : q.rxbuf = s.port.rxbuf) (hl : q.rxlen = s.port.rxlen) :
      Effect s c { s with port := q }
  | frameDec (q : Port) (h : s.port.Answers q) : Effect s .frameDec { s with port := q }
  | write (i : InstId) (xtd rtr : Bool) (e : TxElement) (he : e.Encoded s.params.layout)
      (hr : (s.inst i).life = .running) (hq : (s.inst i).txq.length ≠ 32) :
      Effect s (.write i xtd rtr) ((s.setInst i ((s.inst i).pushTx e)).setRes0 0).done
  /-- A read that removes the head entry, and delivers it or fails. -/
  | read (i : InstId) (q : Port) (h : s.port.Answers q) (hr : (s.inst i).life = .running) :
      Effect s (.read i) { s.setInst i (s.inst i).popRx with port := q }
  | filterProg (i : InstId) (xtd : Bool) (sft : Vector StdFilter 128) (xft : Vector ExtFilter 64)
      (hr : (s.inst i).life = .running) :
      Effect s (.filterProg i xtd) (s.setInst i { s.inst i with sft := sft, xft := xft }).done
  | filterIndex (i : InstId) (xtd : Bool) (hr : (s.inst i).life = .running) :
      Effect s (.filterProg i xtd) (s.raiseFatal i .configurationFault codeFilterIndex)
  | init (i : InstId) (t : Timing) (hl : (s.inst i).life = .uninitialized) :
      Effect s (.init i) (configure i t (s.bringUp i)).finish
  | deinit (i : InstId) (hr : (s.inst i).life = .running) :
      Effect s (.deinit i)
        (State.releaseClock
          (State.hook (.disableInterrupt i) (State.hook (.releasePins i) (s.setInst i (s.released i))))).done
  | setBitTiming (i : InstId) (t : Timing) (hr : (s.inst i).life = .running) :
      Effect s (.setBitTiming i) (configure i t s).finish

/-- The length code of a transmit header stands in its second word (30_encoding.md R82). -/
theorem wordDlc_t1 (L : Layout) (h : TxHeader) : wordDlc L (h.t1 L) = h.dlc := by
  cases L
  apply BitVec.eq_of_getLsbD_eq
  intro k hk
  have h1 : 16 + k < 32 := by omega
  have h2 : ¬ 24 ≤ 16 + k := by omega
  have h3 : 16 + k ≠ 23 ∧ 16 + k ≠ 21 ∧ 16 + k ≠ 20 := by omega
  simp [wordDlc, TxHeader.t1, hk, h1, h2, h3]

/-- An element the encoder made has the encoder's form (41_frame_encoder.md R143, R144). -/
theorem enc_encoded {p : Params} {id : Word} {xtd rtr : Bool} {payload : List Byte} {h : TxHeader}
    (he : enc p id xtd rtr payload = .header h) :
    TxElement.Encoded p.layout { t0 := h.t0 p.layout, t1 := h.t1 p.layout, data := payload } := by
  obtain ⟨c, hc, -, rfl⟩ := enc_header he
  cases hL : p.layout
  constructor
  · simpa [TxHeader.ofWords, wordDlc_t1] using hc
  · cases xtd <;> simp [TxHeader.ofWords, wordEsi, TxHeader.t0, idWord, identOf, identField]
  · simp [TxHeader.ofWords, TxHeader.t1]
  · simp [TxHeader.ofWords, TxHeader.t1]
  · simp [TxHeader.ofWords, TxHeader.t1, wordEfc]
  · apply BitVec.eq_of_getLsbD_eq
    intro k hk
    have h1 : 24 + k ≠ 23 := by omega
    have h2 : c.getLsbD (24 + k - 16) = false := BitVec.getLsbD_of_ge _ _ (by omega)
    simp [TxHeader.ofWords, TxHeader.t1, h1, h2]

/-- A command always answers a next state, by one of the effects. -/
theorem exec_effect (c : Instr) (s : State) : ∃ t, exec c s = .next t ∧ Effect s c t := by
  cases c with
  | dlcEnc =>
    simp only [exec, execDlcEnc]
    split
    · exact ⟨_, rfl, .refuse _ _⟩
    · split
      · exact ⟨_, rfl, .dlcEncUndefined _ (by assumption)⟩
      · exact ⟨_, rfl, .answer _ _ ⟨rfl, statusCode_le _⟩ rfl rfl⟩
  | dlcDec =>
    simp only [exec, execDlcDec]
    split
    · exact ⟨_, rfl, .refuse _ _⟩
    · split
      · exact ⟨_, rfl, .refuse _ _⟩
      · exact ⟨_, rfl, .answer _ _ ⟨rfl, statusCode_le _⟩ rfl rfl⟩
  | frameEnc xtd rtr =>
    simp only [exec, execFrameEnc]
    split
    · split
      · rename_i n he
        refine ⟨_, rfl, .frameEncUndefined _ _ _ (enc_undefinedLength he)⟩
      · exact ⟨_, rfl, .answer _ _ ⟨rfl, statusCode_le _⟩ rfl rfl⟩
      · exact ⟨_, rfl, .answer _ _ ⟨rfl, statusCode_le _⟩ rfl rfl⟩
    · exact ⟨_, rfl, .refuse _ _⟩
  | frameDec =>
    simp only [exec, execFrameDec]
    split
    · split
      · exact ⟨_, rfl, .refuse _ _⟩
      · obtain ⟨q, hq, ha⟩ := s.deliver_answers (dec s.params _ _ _)
        exact ⟨_, rfl, hq ▸ .frameDec q ha⟩
    · exact ⟨_, rfl, .refuse _ _⟩
  | write i xtd rtr =>
    simp only [exec, execWrite]
    split
    · split
      · rename_i hr
        rw [State.running_iff] at hr
        split
        · rename_i n he
          exact ⟨_, rfl, .writeUndefined _ _ _ _ (enc_undefinedLength he) hr⟩
        · exact ⟨_, rfl, .answer _ _ ⟨rfl, statusCode_le _⟩ rfl rfl⟩
        · rename_i h he
          refine ⟨_, rfl, ?_⟩
          obtain ⟨q, hq, ha, hb, hl⟩ | ⟨hn, hq⟩ := State.submit_cases (s := s) (i := i) _
          · rw [hq]; exact .answer _ _ ha hb hl
          · rw [hq]; exact .write _ _ _ _ (enc_encoded he) hr hn
      · exact ⟨_, rfl, .refuse _ _⟩
    · exact ⟨_, rfl, .refuse _ _⟩
  | read i =>
    simp only [exec, execRead]
    split
    · rename_i hr
      rw [State.running_iff] at hr
      split
      · exact ⟨_, rfl, .answer _ _ ⟨rfl, statusCode_le _⟩ rfl rfl⟩
      · split
        · refine ⟨_, rfl, ?_⟩
          unfold State.failRead
          split
          · exact .read i _ ⟨by cases i <;> rfl, statusCode_le _⟩ hr
          · exact .answer _ _ ⟨rfl, statusCode_le _⟩ rfl rfl
        · obtain ⟨q, hq, ha⟩ := (s.setInst i (s.inst i).popRx).deliver_answers (dec s.params _ _ _)
          refine ⟨_, rfl, ?_⟩
          rw [hq]
          have hp : (s.setInst i (s.inst i).popRx).port = s.port := by cases i <;> rfl
          rw [hp] at ha
          exact .read i q ha hr
    · exact ⟨_, rfl, .refuse _ _⟩
  | filterProg i xtd =>
    simp only [exec, execFilterProg]
    split
    · split
      · rename_i hr
        rw [State.running_iff] at hr
        split
        · exact ⟨_, rfl, .filterIndex _ _ hr⟩
        · split
          · exact ⟨_, rfl, .filterProg _ _ _ _ hr⟩
          · exact ⟨_, rfl, .filterProg _ _ _ _ hr⟩
      · exact ⟨_, rfl, .refuse _ _⟩
    · exact ⟨_, rfl, .refuse _ _⟩
  | accept i xtd rtr =>
    simp only [exec, execAccept]
    split
    · exact ⟨_, rfl, .refuse _ _⟩
    · split
      · exact ⟨_, rfl, .answer _ _ ⟨rfl, statusCode_le _⟩ rfl rfl⟩
      · exact ⟨_, rfl, .refuse _ _⟩
  | txFree i =>
    simp only [exec, execTxFree]
    split
    · exact ⟨_, rfl, .answer _ _ ⟨rfl, statusCode_le _⟩ rfl rfl⟩
    · exact ⟨_, rfl, .refuse _ _⟩
  | init i =>
    simp only [exec, execInit]
    split
    · exact ⟨_, rfl, .refuse _ _⟩
    · split
      · exact ⟨_, rfl, .init _ _ (by assumption)⟩
      · exact ⟨_, rfl, .refuse _ _⟩
  | deinit i =>
    simp only [exec, execDeinit]
    split
    · rename_i hr
      exact ⟨_, rfl, .deinit _ ((State.running_iff _ _).mp hr)⟩
    · exact ⟨_, rfl, .refuse _ _⟩
  | setBitTiming i =>
    simp only [exec, execSetBitTiming]
    split
    · exact ⟨_, rfl, .refuse _ _⟩
    · split
      · rename_i hr
        exact ⟨_, rfl, .setBitTiming _ _ ((State.running_iff _ _).mp hr)⟩
      · exact ⟨_, rfl, .refuse _ _⟩
  | rxErr i =>
    simp only [exec, execRxErr]
    split
    · exact ⟨_, rfl, .answer _ _ ⟨rfl, statusCode_le _⟩ rfl rfl⟩
    · exact ⟨_, rfl, .refuse _ _⟩
  | txErr i =>
    simp only [exec, execTxErr]
    split
    · exact ⟨_, rfl, .answer _ _ ⟨rfl, statusCode_le _⟩ rfl rfl⟩
    · exact ⟨_, rfl, .refuse _ _⟩

/-- The effect of a command that answered `t`. -/
theorem effect_of_exec {c : Instr} {t : State} (h : exec c s = .next t) : Effect s c t := by
  obtain ⟨t', h', he⟩ := exec_effect c s
  rw [h] at h'
  cases h'
  exact he

end Sys2Proof.Machine
end

