-- ==== Sys2Proof/Laws/PerInstr.lean ====
section
/-! SUPPORT. The per-instruction families of LAWS.json. -/

/-- Every fixed bit of an instruction's word has the value the opcode table gives its row. -/
def Sys2Proof.Laws.FixedBits.Statement (i : Sys2Proof.Instr) : Prop :=
  Sys2Proof.encode i &&& i.row.mask = i.row.pattern

namespace Sys2Proof.Laws.FixedBits

theorem dlcEnc : Statement .dlcEnc := rfl
theorem dlcDec : Statement .dlcDec := rfl
theorem frameEnc (xtd rtr : Bool) : Statement (.frameEnc xtd rtr) := by cases xtd <;> cases rtr <;> rfl
theorem frameDec : Statement .frameDec := rfl
theorem write (inst : InstId) (xtd rtr : Bool) : Statement (.write inst xtd rtr) := by
  cases inst <;> cases xtd <;> cases rtr <;> rfl
theorem read (inst : InstId) : Statement (.read inst) := by cases inst <;> rfl
theorem filterProg (inst : InstId) (xtd : Bool) : Statement (.filterProg inst xtd) := by
  cases inst <;> cases xtd <;> rfl
theorem accept (inst : InstId) (xtd rtr : Bool) : Statement (.accept inst xtd rtr) := by
  cases inst <;> cases xtd <;> cases rtr <;> rfl
theorem txFree (inst : InstId) : Statement (.txFree inst) := by cases inst <;> rfl
theorem init (inst : InstId) : Statement (.init inst) := by cases inst <;> rfl
theorem deinit (inst : InstId) : Statement (.deinit inst) := by cases inst <;> rfl
theorem setBitTiming (inst : InstId) : Statement (.setBitTiming inst) := by cases inst <;> rfl
theorem rxErr (inst : InstId) : Statement (.rxErr inst) := by cases inst <;> rfl
theorem txErr (inst : InstId) : Statement (.txErr inst) := by cases inst <;> rfl

end Sys2Proof.Laws.FixedBits
end

