-- ==== Sys2Proof/Laws/Step.lean ====
section
/-! SUPPORT. What a step can do, said once: `step_next` takes a step that answered a next state apart by the turn it
took. -/

namespace Sys2Proof.Machine

/-- The start of a turn leaves the host's stop as it is. -/
theorem State.beginTurn_hostStop? (s : State) (rest : List Turn) : (s.beginTurn rest).hostStop? = s.hostStop? := rfl

/-- A command word in the port always answers a next state: a refusal or an effect of the command it is. -/
theorem runPort_next (s : State) : ∃ t, runPort s = .next t
    ∧ (t = s.refuse .illegalCommand ∨ ∃ i, decode s.port.cmd = .ok i ∧ exec i s = .next t) := by
  unfold runPort
  cases hd : decode s.port.cmd with
  | error e => exact ⟨_, rfl, .inl rfl⟩
  | ok i =>
    obtain ⟨t, ht, -⟩ := exec_effect i s
    exact ⟨t, ht, .inr ⟨i, rfl, ht⟩⟩

/-- The four ways a step answers a next state: no turn, a turn of a bus agent, or a turn of the host. -/
theorem step_next {s t : State} (h : step s = .next t) :
    (s.agenda = [] ∧ t = s)
      ∨ (∃ i rest, s.agenda = .busTx i :: rest ∧ t = busTx i (s.beginTurn rest))
      ∨ (∃ i bf rest, s.agenda = .busRx i bf :: rest ∧ t = busRx i bf (s.beginTurn rest))
      ∨ ∃ c rest u, s.agenda = .host c :: rest ∧ s.hostStop? = none
          ∧ (u = ((s.beginTurn rest).present c).refuse .illegalCommand
            ∨ ∃ i, decode c.cmd = .ok i ∧ exec i ((s.beginTurn rest).present c) = .next u)
          ∧ t = if u.hostStop?.isSome then u else { u with hostPos := u.hostPos + 1 } := by
  unfold step at h
  cases ha : s.agenda with
  | nil =>
    rw [ha] at h
    cases h
    exact .inl ⟨rfl, rfl⟩
  | cons x rest =>
    rw [ha] at h
    cases x with
    | busTx i =>
      cases h
      exact .inr (.inl ⟨_, _, rfl, rfl⟩)
    | busRx i bf =>
      cases h
      exact .inr (.inr (.inl ⟨_, _, _, rfl, rfl⟩))
    | host c =>
      simp only [takeTurn, hostTurn, State.beginTurn_hostStop?] at h
      cases hh : s.hostStop? with
      | some f =>
        rw [hh] at h
        cases h
      | none =>
        rw [hh] at h
        obtain ⟨u, hu, hcase⟩ := runPort_next ((s.beginTurn rest).present c)
        simp only [hu, advancePos, Host.Outcome.next.injEq] at h
        exact .inr (.inr (.inr ⟨c, rest, u, rfl, rfl, hcase, h.symm⟩))

end Sys2Proof.Machine
end

