-- ==== Sys2Proof/Tests/Slice0.lean ====
section
/-! SUPPORT. Tests: the well-formedness smoke, words written out bit by bit, single steps with results from
95_test_vectors.md, and for every obligation with hypotheses a witness that meets them. -/

namespace Sys2Proof.Tests

open Sys2Proof Sys2Proof.Machine Sys2Proof.Claims

/-! ### Well-formedness: one ill-formed term for each check -/

def rawOk : RawCmd := { reserved := 0, rtr := false, xtd := false, inst := false, opc := 0x01 }

theorem test_raw_accepted : rawOk.wf = true := by decide
theorem test_raw_reservedClear : { rawOk with reserved := 1 }.wf = false := by decide
theorem test_raw_opcodeKnown : { rawOk with opc := 0x0A }.wf = false := by decide
theorem test_raw_flagsAllowed_inst : { rawOk with inst := true }.wf = false := by decide
theorem test_raw_flagsAllowed_xtd : { rawOk with opc := 0x06, xtd := true }.wf = false := by decide
theorem test_raw_flagsAllowed_rtr : { rawOk with opc := 0x07, rtr := true }.wf = false := by decide

/-- Parameters with every open choice made, so that a test can evaluate them. -/
def params : Params :=
  { Config.defaults with
    rxReadMayFail := false, errTxFull := 7, hwCounterWidth := 9
    dataTiming := { prescaler := 1, seg1 := 1, seg2 := 1, sjw := 1 } }

theorem test_params_accepted : params.wf = true := by decide
theorem test_params_counterWidthLegal : { params with hwCounterWidth := 7 }.wf = false := by decide
theorem test_params_exampleTimingLegal :
    { params with timingRange := { params.timingRange with prescaler := { lo := 1, hi := 19 } } }.wf = false := by decide

/-! ### Decoding: words written out from 30_encoding.md R90 and R91 (31:11 reserved, RTR, XTD, INST, OPC) -/

theorem test_decode_dlcEnc : decode 0b000000000000000000000_0_0_0_00000001 = .ok .dlcEnc := rfl
theorem test_decode_dlcDec : decode 0b000000000000000000000_0_0_0_00000010 = .ok .dlcDec := rfl
theorem test_decode_frameEnc : decode 0b000000000000000000000_1_0_0_00000011 = .ok (.frameEnc false true) := rfl
theorem test_decode_frameDec : decode 0b000000000000000000000_0_0_0_00000100 = .ok .frameDec := rfl
theorem test_decode_write : decode 0b000000000000000000000_1_0_1_00000101 = .ok (.write .i1 false true) := rfl
theorem test_decode_read : decode 0b000000000000000000000_0_0_1_00000110 = .ok (.read .i1) := rfl
theorem test_decode_filterProg : decode 0b000000000000000000000_0_1_0_00000111 = .ok (.filterProg .i0 true) := rfl
theorem test_decode_accept : decode 0b000000000000000000000_0_1_1_00001000 = .ok (.accept .i1 true false) := rfl
theorem test_decode_txFree : decode 0b000000000000000000000_0_0_0_00001001 = .ok (.txFree .i0) := rfl
theorem test_decode_init : decode 0b000000000000000000000_0_0_1_00010000 = .ok (.init .i1) := rfl
theorem test_decode_deinit : decode 0b000000000000000000000_0_0_0_00010001 = .ok (.deinit .i0) := rfl
theorem test_decode_setBitTiming : decode 0b000000000000000000000_0_0_1_00010010 = .ok (.setBitTiming .i1) := rfl
theorem test_decode_rxErr : decode 0b000000000000000000000_0_0_0_00010011 = .ok (.rxErr .i0) := rfl
theorem test_decode_txErr : decode 0b000000000000000000000_0_0_1_00010100 = .ok (.txErr .i1) := rfl

/-- 95_test_vectors.md L2.8: one word for each reason a word is no command. -/
theorem test_decode_rejects :
    decode 0x80000005 = .error .reservedBits ∧ decode 0x00000015 = .error .reservedOpcode
      ∧ decode 0x00000101 = .error .unusedInst ∧ decode 0x00000206 = .error .unusedXtd
      ∧ decode 0x00000411 = .error .unusedRtr := ⟨rfl, rfl, rfl, rfl, rfl⟩

theorem test_decodeTableWord : decodeTableWord 32 0x00000307 = some (.filterProg .i1 true) := by decide

/-! ### Small states -/

/-- A reset state with the test parameters. -/
def bench : State := { State.reset with params := params }

/-- An issue that writes the given operands and payload. -/
def issue (cmd : Word) (args : List Word) (bytes : List Byte) : Issue :=
  { cmd := cmd, arg0 := args[0]?, arg1 := args[1]?, arg2 := args[2]?, arg3 := args[3]?
    txbuf := some bytes, txlen := some (Fin.ofNat 65 bytes.length) }

/-- An instance as a successful INIT leaves it (70_reset_and_hazards.md R332). -/
def started : InstState :=
  { InstState.reset with
    life := .running, timing := { prescaler := 20, seg1 := 13, seg2 := 2, sjw := 1 }, cfg := fixedCfg, gfp := fixedGfp
    sft := (Vector.replicate 128 .disabled).set 0 (.mask 0 0)
    xft := (Vector.replicate 64 .disabled).set 0 (.mask 0 0) }

/-- Instance 0 initialized. -/
def up : State := { bench with inst0 := started, clkRef := 1, clkOn := true }

/-- Both instances initialized. -/
def upBoth : State := { up with inst1 := started, clkRef := 2 }

/-- The operands and a payload in the port. -/
def loaded (s : State) (args : List Word) (bytes : List Byte) : State := s.present (issue 0 args bytes)

/-- `s` after one turn. -/
def turn (t : Turn) (s : State) : State :=
  match step { s with agenda := [t] } with
  | .next u => u
  | .fault _ => s
  | .refused _ => s

/-- `s` after one issued command. -/
def after (cmd : Word) (args : List Word) (bytes : List Byte) (s : State) : State :=
  turn (.host (issue cmd args bytes)) s

/-- The transmit element of 95_test_vectors.md L1.6. -/
def sent : TxElement := { t0 := 0x048C0000, t1 := 0x00820000, data := [0x01, 0x02] }

/-- A receive entry: id 0x155, 3 bytes (95_test_vectors.md P2). -/
def entry : RxEntry := { r0 := 0x05540000, r1 := 0x01030000, data := [0xAA, 0xBB, 0xCC] ++ List.replicate 61 0xEE }

/-- `up` with `n` elements queued. -/
def queued (n : Nat) : State := { up with inst0 := { started with txq := List.replicate n sent } }

/-- `up` with the entry received. -/
def received : State := { up with inst0 := { started with rxf0 := [entry] } }

/-! ### Single steps; expected results from 95_test_vectors.md -/

/-- L1.2. -/
theorem test_dlcEnc : (after 0x01 [48] [] bench).port.res0 = 14 := by decide
/-- L2.1. -/
theorem test_dlcEnc_undefined : (after 0x01 [9] [] bench).undefLength = some 9 := by decide
/-- L1.2. -/
theorem test_dlcDec : (after 0x02 [15] [] bench).port.res0 = 64 := by decide
/-- L2.1. -/
theorem test_dlcDec_refused : (after 0x02 [0x10] [] bench).refuseReason = some .illegalCommand := by decide
/-- L2.2. -/
theorem test_frameEnc : (after 0x603 [0x1ABCDE] [] bench).port.res0 = 0x601ABCDE
    ∧ (after 0x603 [0x1ABCDE] [] bench).port.res1 = 0x00800000 := by decide
/-- L2.2: length 12 under `Truncate`. -/
theorem test_frameEnc_long : (after 0x03 [0xFFFFFFFF] (List.replicate 12 0) bench).port.res0 = 0x1FFC0000
    ∧ (after 0x03 [0xFFFFFFFF] (List.replicate 12 0) bench).port.res1 = 0x00890000 := by decide
/-- L2.4. -/
theorem test_frameDec :
    (after 0x04 [0x5FFFFFFF, 0xFF88FFFF] [1, 2, 3, 4, 5, 6, 7, 8] bench).port.res0 = 0x1FFFFFFF
      ∧ (after 0x04 [0x5FFFFFFF, 0xFF88FFFF] [1, 2, 3, 4, 5, 6, 7, 8] bench).port.res1 = 1
      ∧ (after 0x04 [0x5FFFFFFF, 0xFF88FFFF] [1, 2, 3, 4, 5, 6, 7, 8] bench).port.rxlen = 8 := by decide
/-- L2.4: DLC 4 with `TXLEN = 2`. -/
theorem test_frameDec_unsupplied :
    (after 0x04 [0, 0x00040000] [1, 2] bench).refuseReason = some .unsuppliedBytes := by decide
/-- L1.6. -/
theorem test_write : (after 0x05 [0x123] [0x01, 0x02] up).inst0.txq = [sent] := by decide
/-- L2.3: a full queue. -/
theorem test_write_full : (after 0x05 [0x010] [0x00] (queued 32)).port.status = 0x02
    ∧ (after 0x05 [0x010] [0x00] (queued 32)).port.res0 = 7 := by decide
/-- P2, step 9. -/
theorem test_read : (after 0x06 [] [] received).port.res0 = 0x155
    ∧ (after 0x06 [] [] received).port.rxbuf.toList.take 3 = [0xAA, 0xBB, 0xCC] := by decide
/-- L1.4. -/
theorem test_read_empty : (after 0x06 [] [] up).port.status = 0x01 := by decide
/-- L2.6. -/
theorem test_filterProg :
    (after 0x07 [127, 0xFFFF, 0xFFFFFFFF] [] up).inst0.sft[127] = .mask 0x7FF 0x7FF := by decide +kernel
/-- L2.6: slot 64 of the extended table. -/
theorem test_filterProg_fatal : (after 0x207 [64, 0, 0] [] up).inst0.life = .halted
    ∧ (after 0x207 [64, 0, 0] [] up).hooks = [.reportFatal .configurationFault 0x01] := by decide
/-- L2.6: slots 0 and 3 match, the lowest is reported. -/
theorem test_accept :
    (after 0x08 [0x125] [] { up with
      inst0 := { started with sft := (started.sft.set 0 (.mask 0x100 0x700)).set 3 (.mask 0x120 0x7F0) } }).port.res1
      = 0 := by decide
/-- L2.6: a remote frame. -/
theorem test_accept_remote : (after 0x408 [0x1FF] [] up).port.res0 = 0
    ∧ (after 0x408 [0x1FF] [] up).port.res1 = 0xFFFFFFFF := by decide
/-- L1.6. -/
theorem test_txFree : (after 0x09 [] [] (queued 1)).port.res0 = 31 := by decide
/-- L2.7. -/
theorem test_init : (after 0x10 [20, 13, 2, 1] [] bench).inst0.life = .running
    ∧ (after 0x10 [20, 13, 2, 1] [] bench).clkRef = 1 := by decide
/-- L2.7: prescaler 0. -/
theorem test_init_timing : (after 0x10 [0, 13, 2, 1] [] bench).inst0.fatal
    = some { kind := .configurationFault, code := 0x02 } := by decide
/-- P4, step 3. -/
theorem test_deinit : (after 0x11 [] [] upBoth).clkRef = 1 ∧ (after 0x11 [] [] upBoth).clkOn = true := by decide
/-- P4, step 5. -/
theorem test_deinit_last : (after 0x11 [] [] up).clkOn = false
    ∧ (after 0x11 [] [] up).hooks = [.releasePins .i0, .disableInterrupt .i0, .disablePeripheralClock] := by decide
/-- L2.7. -/
theorem test_setBitTiming : (after 0x12 [10, 13, 2, 1] [] (queued 3)).inst0.timing.prescaler = 10
    ∧ (after 0x12 [10, 13, 2, 1] [] (queued 3)).inst0.txq = [] := by decide
/-- L2.7. -/
theorem test_setBitTiming_timing : (after 0x12 [0, 13, 2, 1] [] up).inst0.life = .halted := by decide
/-- The state after a command on a state that is not taken through a turn (the turn would redraw the counters). -/
def ran (c : Instr) (s : State) : State :=
  match exec c s with
  | .next u => u
  | .fault _ => s
  | .refused _ => s

/-- L2.7: truncation, not saturation. -/
theorem test_rxErr : (ran (.rxErr .i0) { up with inst0 := { started with recRaw := 0x1FF } }).port.res0 = 0xFF := by
  decide
/-- L2.7. -/
theorem test_txErr : (ran (.txErr .i0) { up with inst0 := { started with tecRaw := 0x80 } }).port.res0 = 0x80 := by
  decide
/-- L2.3. -/
theorem test_busTx : (turn (.busTx .i0) (queued 1)).emitted
    = [(.i0, { ident := .std 0x123, rtr := false, dlc := 2, data := [0x01, 0x02] })] := by decide
/-- L2.5: `R0` of the stored entry. -/
theorem test_busRx :
    (turn (.busRx .i0 { ident := .std 0x123, rtr := false, dlc := 2, data := [0x01, 0x02] }) up).inst0.rxf0.map (·.r0)
      = [0x048C0000] := by decide
/-- L2.8: the priority of 60_exceptions.md R311. -/
theorem test_priority : (after 0x805 [0x123] [] bench).refuseReason = some .illegalCommand
    ∧ (after 0x05 [0x123] (List.replicate 9 0) bench).refuseReason = some .notRunning := by decide
/-- L2.6: the element words. -/
theorem test_filterWords : stdWord .fdcanH7 (.mask 0x123 0x7F0) = 0x892307F0
    ∧ extWord0 .fdcanH7 (.mask 0x1ABCDE 0x1FFFFF00) = 0x201ABCDE
    ∧ extWord1 .fdcanH7 (.mask 0x1ABCDE 0x1FFFFF00) = 0x9FFFFF00 := by decide
/-- L1.6: the first data word. -/
theorem test_dataWord : dataWord [0x01, 0x02] 0 = 0x00000201 := by decide
/-- The host's check: the first step after reset runs the placed word. -/
theorem test_withFetchWord : ∃ t, step (State.reset.withFetchWord 32 0x00000002) = .next t ∧ t.port.status = 0
    ∧ t.hostPos = 1 := ⟨_, rfl, rfl, rfl⟩

/-! ### Witnesses: for each obligation with hypotheses, states and operands that meet them, at boundary values -/

/-- A state with a payload in the port has it. -/
theorem hasPayload_loaded (n : Nat) (h : n ≤ 64) (s : State) (args : List Word) (bytes : List Byte)
    (hl : bytes.length = n) : HasPayload (loaded s args bytes) bytes := by
  subst hl
  have ht : (loaded s args bytes).port.txlen.val = bytes.length := Nat.mod_eq_of_lt (by omega)
  refine ⟨by simp [loaded, issue, State.present, Port.present], fun j hj hk => ?_, ?_⟩
  · rw [ht] at hk
    simp [loaded, issue, State.present, Port.present, markWritten, hk]
  · rw [ht]
    apply List.ext_getElem
    · simp; omega
    · intro j h1 h2
      simp [loaded, issue, State.present, Port.present, overwrite, h1]

theorem lacksPayload_bench : LacksPayload bench := .inl rfl

/-- `TXLEN` written, byte 0 not. -/
theorem lacksPayload_byte : LacksPayload { bench with
    port := { bench.port with txlen := 1, written := { bench.port.written with txlen := true } } } :=
  .inr ⟨0, by decide, by decide, rfl⟩

theorem witness_EncodeOfDecodeIsTheWord : decode 0x00000708 = .ok (.accept .i1 true true) := rfl

theorem witness_IllegalCommandIsRefused :
    ({ bench with agenda := [.host (issue 0x801 [] [])] } : State).agenda = .host (issue 0x801 [] []) :: []
      ∧ ({ bench with agenda := [.host (issue 0x801 [] [])] } : State).hostStop? = none
      ∧ IllegalWord (issue 0x801 [] []).cmd := ⟨rfl, rfl, .inl (by decide)⟩
theorem witness_IllegalCommandIsRefused_words :
    IllegalWord 0x00000801 ∧ IllegalWord 0x00000015 ∧ IllegalWord 0x00000101 ∧ IllegalWord 0x00000204
      ∧ IllegalWord 0x00000411 :=
  ⟨.inl (by decide), .inr (.inl (by decide +kernel)), .inr (.inr ⟨_, .head _, by decide, .inl (by decide)⟩),
    .inr (.inr ⟨(0x04, false, false, false), by decide, by decide, .inr (.inl (by decide))⟩),
    .inr (.inr ⟨(0x11, true, false, false), by decide, by decide, .inr (.inr (by decide))⟩)⟩
theorem witness_IllegalCommandIsRefused_dlcDec : (loaded bench [16] []).port.written.arg0 = true
    ∧ 16 ≤ (loaded bench [16] []).port.arg0.toNat := by decide

theorem witness_DataWordsArePackedLittleEndian : 3 < 4 ∧ 4 * 1 + 3 < (List.replicate 8 (0xA5 : Byte)).length := by
  decide

theorem witness_DlcTableIsAStrictBijection :
    bytesToDlc 8 = some 8 ∧ bytesToDlc 12 = some 9 ∧ bytesToDlc 64 = some 15 ∧ (14 : BitVec 4).toNat < (15 : BitVec 4).toNat := by
  decide

theorem witness_DlcEncOutcomes : bench.port.written.arg0 = false
    ∧ ((loaded bench [64] []).port.written.arg0 = true ∧ (64, (15 : BitVec 4)) ∈ dlcRows
      ∧ (loaded bench [64] []).port.arg0.toNat = 64)
    ∧ (loaded bench [9] []).port.arg0.toNat ∉ lenSet ∧ (loaded bench [0xFFFFFFFF] []).port.arg0.toNat ∉ lenSet := by
  decide

theorem witness_DlcDecOutcomes : bench.port.written.arg0 = false
    ∧ ((loaded bench [0x10] []).port.written.arg0 = true ∧ (loaded bench [0x10] []).port.arg0.extractLsb' 4 28 ≠ 0)
    ∧ ((64, (15 : BitVec 4)) ∈ dlcRows ∧ (loaded bench [15] []).port.arg0 = (15 : BitVec 4).setWidth 32) := by
  decide

theorem witness_EncodedHeaderFields :
    (∃ h, enc params 0xFFFFFFFF false true [] = .header h) ∧ ∃ h, enc params 0xFFFFFFFF true false (List.replicate 64 0) = .header h :=
  ⟨⟨_, rfl⟩, ⟨_, rfl⟩⟩

/-- `s` under `CLASSIC_OVERLENGTH = Reject`. -/
def rejecting (s : State) : State := { s with params := { s.params with classicOverlength := .reject } }

/-- `s` under `RX_OVERLENGTH = Fault`. -/
def faulting (s : State) : State := { s with params := { s.params with rxOverlength := .fault } }

theorem witness_FrameEncOutcomes_refused :
    bench.port.written.arg0 = false ∧ (loaded bench [] []).port.written.arg0 = false
      ∧ LacksPayload { bench with port := { bench.port with written := { bench.port.written with arg0 := true } } } :=
  ⟨rfl, rfl, .inl rfl⟩
theorem witness_FrameEncOutcomes_undefined :
    (loaded bench [1] (List.replicate 9 0)).port.written.arg0 = true
      ∧ HasPayload (loaded bench [1] (List.replicate 9 0)) (List.replicate 9 0)
      ∧ (List.replicate 9 (0 : Byte)).length ∉ lenSet :=
  ⟨rfl, hasPayload_loaded 9 (by decide) _ _ _ rfl, by decide⟩
theorem witness_FrameEncOutcomes_rejected :
    (loaded (rejecting bench) [1] (List.replicate 12 0)).port.written.arg0 = true
      ∧ HasPayload (loaded (rejecting bench) [1] (List.replicate 12 0)) (List.replicate 12 0)
      ∧ (List.replicate 12 (0 : Byte)).length ∈ lenSet ∧ 8 < (List.replicate 12 (0 : Byte)).length
      ∧ (loaded (rejecting bench) [1] (List.replicate 12 0)).params.classicOverlength = .reject :=
  ⟨rfl, hasPayload_loaded 12 (by decide) _ _ _ rfl, by decide, by decide, rfl⟩
theorem witness_FrameEncOutcomes_encoded :
    (loaded bench [1] (List.replicate 64 0)).port.written.arg0 = true
      ∧ HasPayload (loaded bench [1] (List.replicate 64 0)) (List.replicate 64 0)
      ∧ ((List.replicate 64 (0 : Byte)).length, (15 : BitVec 4)) ∈ dlcRows
      ∧ (loaded bench [1] (List.replicate 64 0)).params.classicOverlength = .truncate
      ∧ HasPayload (loaded (rejecting bench) [1] (List.replicate 8 0)) (List.replicate 8 0)
      ∧ (List.replicate 8 (0 : Byte)).length ≤ 8 :=
  ⟨rfl, hasPayload_loaded 64 (by decide) _ _ _ rfl, by decide, rfl, hasPayload_loaded 8 (by decide) _ _ _ rfl,
    by decide⟩

theorem witness_WriteOutcomes_stopped :
    (bench.port.written.arg0 = false ∨ LacksPayload bench)
      ∧ (loaded bench [1] []).port.written.arg0 = true ∧ HasPayload (loaded bench [1] []) []
      ∧ ((loaded bench [1] []).inst .i0).life ≠ .running :=
  ⟨.inl rfl, rfl, hasPayload_loaded 0 (by decide) _ _ _ rfl, by decide⟩
theorem witness_WriteOutcomes_undefined :
    (loaded up [1] (List.replicate 63 0)).port.written.arg0 = true
      ∧ HasPayload (loaded up [1] (List.replicate 63 0)) (List.replicate 63 0)
      ∧ ((loaded up [1] (List.replicate 63 0)).inst .i0).life = .running
      ∧ (List.replicate 63 (0 : Byte)).length ∉ lenSet :=
  ⟨rfl, hasPayload_loaded 63 (by decide) _ _ _ rfl, rfl, by decide⟩
theorem witness_WriteOutcomes_rejected :
    (loaded (rejecting up) [1] (List.replicate 12 0)).port.written.arg0 = true
      ∧ HasPayload (loaded (rejecting up) [1] (List.replicate 12 0)) (List.replicate 12 0)
      ∧ ((loaded (rejecting up) [1] (List.replicate 12 0)).inst .i0).life = .running
      ∧ (List.replicate 12 (0 : Byte)).length ∈ lenSet ∧ 8 < (List.replicate 12 (0 : Byte)).length
      ∧ (loaded (rejecting up) [1] (List.replicate 12 0)).params.classicOverlength = .reject :=
  ⟨rfl, hasPayload_loaded 12 (by decide) _ _ _ rfl, rfl, by decide, by decide, rfl⟩
theorem witness_WriteOutcomes_full :
    (loaded (queued 32) [1] [7]).port.written.arg0 = true ∧ HasPayload (loaded (queued 32) [1] [7]) [7]
      ∧ ((loaded (queued 32) [1] [7]).inst .i0).life = .running ∧ ([7] : List Byte).length ≤ 8
      ∧ (([7] : List Byte).length, (1 : BitVec 4)) ∈ dlcRows
      ∧ ((loaded (queued 32) [1] [7]).inst .i0).txq.length = 32 :=
  ⟨rfl, hasPayload_loaded 1 (by decide) _ _ _ rfl, rfl, by decide, by decide, rfl⟩
theorem witness_WriteOutcomes_room :
    (loaded (queued 31) [1] [7]).port.written.arg0 = true ∧ HasPayload (loaded (queued 31) [1] [7]) [7]
      ∧ ((loaded (queued 31) [1] [7]).inst .i0).life = .running
      ∧ (([7] : List Byte).length, (1 : BitVec 4)) ∈ dlcRows
      ∧ ((loaded (queued 31) [1] [7]).inst .i0).txq.length ≠ 32
      ∧ (loaded (queued 31) [1] [7]).params.txSubmitMayFail = false :=
  ⟨rfl, hasPayload_loaded 1 (by decide) _ _ _ rfl, rfl, by decide, by decide, rfl⟩
/-- `up` where a submission may fail. -/
def failing : State := { up with params := { params with txSubmitMayFail := true, configMayFail := true, rxReadMayFail := true } }
theorem witness_WriteOutcomes_mayFail :
    (loaded failing [1] [7]).port.written.arg0 = true ∧ HasPayload (loaded failing [1] [7]) [7]
      ∧ ((loaded failing [1] [7]).inst .i0).life = .running
      ∧ (([7] : List Byte).length, (1 : BitVec 4)) ∈ dlcRows ∧ ((loaded failing [1] [7]).inst .i0).txq.length ≠ 32
      ∧ (loaded failing [1] [7]).params.txSubmitMayFail = true :=
  ⟨rfl, hasPayload_loaded 1 (by decide) _ _ _ rfl, rfl, by decide, by decide, rfl⟩

theorem witness_TxFreeOutcomes : ((queued 32).inst .i0).life = .running ∧ (bench.inst .i1).life ≠ .running := by decide

theorem witness_DecodedFrameFields :
    (64, (0x000F0000 : Word).extractLsb' 16 4) ∈ dlcRows ∧ 8 < 64 ∧ (faulting bench).params.rxOverlength = .fault
      ∧ bench.params.rxOverlength = .truncate ∧ (8, (0x00080000 : Word).extractLsb' 16 4) ∈ dlcRows := by decide

theorem witness_DecoderIgnoresOtherFields :
    ((0x5FFFFFFF : Word).getLsbD 30 = (0xDFFFFFFF : Word).getLsbD 30
      ∧ (0x5FFFFFFF : Word).getLsbD 29 = (0xDFFFFFFF : Word).getLsbD 29 ∧ (0x5FFFFFFF : Word).getLsbD 30 = true
      ∧ (0x5FFFFFFF : Word).extractLsb' 0 29 = (0xDFFFFFFF : Word).extractLsb' 0 29)
    ∧ ((0x048C0000 : Word).getLsbD 30 = (0x048FFFFF : Word).getLsbD 30
      ∧ (0x048C0000 : Word).getLsbD 29 = (0x048FFFFF : Word).getLsbD 29 ∧ (0x048C0000 : Word).getLsbD 30 = false
      ∧ (0x048C0000 : Word).extractLsb' 18 11 = (0x048FFFFF : Word).extractLsb' 18 11)
    ∧ (0x00080000 : Word).extractLsb' 16 4 = (0xFFF8FFFF : Word).extractLsb' 16 4 := by decide

theorem witness_DecodeOfEncodedFrameIsTheFrame :
    (0x7FF : Word).toNat ≤ 0x7FF ∧ (0x1FFFFFFF : Word).toNat ≤ 0x1FFFFFFF
      ∧ (List.replicate 8 (1 : Byte)).length ≤ 8
      ∧ (List.replicate 8 (1 : Byte) ++ List.replicate 56 0xEE).length = 64 := by decide

theorem witness_LongPayloadsAreCutOrRefused :
    8 < (List.replicate 12 (1 : Byte)).length
      ∧ (∃ h, enc (faulting bench).params 0x123 false false (List.replicate 12 1) = .header h)
      ∧ (faulting bench).params.rxOverlength = .fault
      ∧ (∃ h, enc bench.params 0x123 false false (List.replicate 64 1) = .header h)
      ∧ bench.params.rxOverlength = .truncate :=
  ⟨by decide, ⟨_, rfl⟩, rfl, ⟨_, rfl⟩, rfl⟩

theorem witness_FrameDecOutcomes_refused :
    bench.port.written.arg0 = false ∧ (loaded bench [1] []).port.written.arg1 = false ∧ LacksPayload bench
      ∧ ((loaded bench [0, 0x000F0000] (List.replicate 7 1)).port.written.arg1 = true
        ∧ HasPayload (loaded bench [0, 0x000F0000] (List.replicate 7 1)) (List.replicate 7 1)
        ∧ (64, (loaded bench [0, 0x000F0000] (List.replicate 7 1)).port.arg1.extractLsb' 16 4) ∈ dlcRows
        ∧ (List.replicate 7 (1 : Byte)).length < min 64 8) :=
  ⟨rfl, rfl, lacksPayload_bench, rfl, hasPayload_loaded 7 (by decide) _ _ _ rfl, by decide, by decide⟩
theorem witness_FrameDecOutcomes_overlength :
    (loaded (faulting bench) [0, 0x00090000] (List.replicate 8 1)).port.written.arg0 = true
      ∧ (loaded (faulting bench) [0, 0x00090000] (List.replicate 8 1)).port.written.arg1 = true
      ∧ HasPayload (loaded (faulting bench) [0, 0x00090000] (List.replicate 8 1)) (List.replicate 8 1)
      ∧ (12, (loaded (faulting bench) [0, 0x00090000] (List.replicate 8 1)).port.arg1.extractLsb' 16 4) ∈ dlcRows
      ∧ min 12 8 ≤ (List.replicate 8 (1 : Byte)).length ∧ 8 < 12
      ∧ (loaded (faulting bench) [0, 0x00090000] (List.replicate 8 1)).params.rxOverlength = .fault :=
  ⟨rfl, rfl, hasPayload_loaded 8 (by decide) _ _ _ rfl, by decide, by decide, by decide, rfl⟩
theorem witness_FrameDecOutcomes_delivered :
    (loaded bench [0, 0x00080000] (List.replicate 8 1)).port.written.arg0 = true
      ∧ (loaded bench [0, 0x00080000] (List.replicate 8 1)).port.written.arg1 = true
      ∧ HasPayload (loaded bench [0, 0x00080000] (List.replicate 8 1)) (List.replicate 8 1)
      ∧ (8, (loaded bench [0, 0x00080000] (List.replicate 8 1)).port.arg1.extractLsb' 16 4) ∈ dlcRows
      ∧ min 8 8 ≤ (List.replicate 8 (1 : Byte)).length :=
  ⟨rfl, rfl, hasPayload_loaded 8 (by decide) _ _ _ rfl, by decide, by decide⟩

theorem witness_ReadOutcomes :
    (bench.inst .i0).life ≠ .running ∧ ((up.inst .i0).life = .running ∧ (up.inst .i0).rxf0 = [])
      ∧ ((received.inst .i0).life = .running ∧ (received.inst .i0).rxf0 = entry :: []
        ∧ received.params.rxReadMayFail = false ∧ (3, entry.r1.extractLsb' 16 4) ∈ dlcRows)
      ∧ failing.params.rxReadMayFail = true := by decide

theorem witness_FilterProgOutcomes :
    bench.port.written.arg0 = false ∧ (loaded bench [1] []).port.written.arg1 = false
      ∧ (loaded bench [1, 2] []).port.written.arg2 = false
      ∧ ((loaded bench [0, 0, 0] []).port.written.arg2 = true ∧ ((loaded bench [0, 0, 0] []).inst .i0).life ≠ .running)
      ∧ (((loaded up [127, 0, 0] []).inst .i0).life = .running ∧ (loaded up [127, 0, 0] []).port.arg0.toNat < 128)
      ∧ (loaded up [63, 0, 0] []).port.arg0.toNat < 64 ∧ 128 ≤ (loaded up [128, 0, 0] []).port.arg0.toNat
      ∧ 64 ≤ (loaded up [64, 0, 0] []).port.arg0.toNat := by decide

theorem witness_FilterProgTwiceIsOnce : ∃ t, exec (.filterProg .i0 false) (loaded up [3, 0x123, 0x7F0] []) = .next t
    ∧ (t.inst .i0).life = ((loaded up [3, 0x123, 0x7F0] []).inst .i0).life :=
  ⟨ran (.filterProg .i0 false) (loaded up [3, 0x123, 0x7F0] []), rfl, by decide⟩

/-- `up` with the open policies, the baseline slots disabled and slot 3 of each table enabled. -/
def openPolicy : State :=
  { up with
    inst0 := { started with
      gfp := { anfs := .acceptFifo0, anfe := .acceptFifo1, rrfs := false, rrfe := false }
      sft := (Vector.replicate 128 .disabled).set 3 (.mask 0x120 0x7F0)
      xft := (Vector.replicate 64 .disabled).set 3 (.mask 0x1ABC00 0x1FFFFF00) } }

theorem witness_AcceptOutcomes_stopped : bench.port.written.arg0 = false
    ∧ (loaded bench [1] []).port.written.arg0 = true ∧ ((loaded bench [1] []).inst .i0).life ≠ .running := by decide
theorem witness_AcceptOutcomes_remote : (loaded up [1] []).port.written.arg0 = true
    ∧ ((loaded up [1] []).inst .i0).life = .running ∧ ((loaded up [1] []).inst .i0).gfp.rrfe = true
    ∧ ((loaded up [1] []).inst .i0).gfp.rrfs = true ∧ ((loaded openPolicy [1] []).inst .i0).gfp.rrfs = false := by
  decide
theorem witness_AcceptOutcomes_hit :
    (loaded openPolicy [0x125] []).port.written.arg0 = true ∧ ((loaded openPolicy [0x125] []).inst .i0).life = .running
      ∧ StdHit ((loaded openPolicy [0x125] []).inst .i0).sft[3] ((loaded openPolicy [0x125] []).port.arg0.setWidth 11)
      ∧ (∀ j (_ : j < 3), ((loaded openPolicy [0x125] []).inst .i0).sft[j] = .disabled)
      ∧ ExtHit ((loaded openPolicy [0x1ABCDE] []).inst .i0).xft[3]
        ((loaded openPolicy [0x1ABCDE] []).port.arg0.setWidth 29 &&& ((loaded openPolicy [0x1ABCDE] []).inst .i0).xidam)
      ∧ ∀ j (_ : j < 3), ((loaded openPolicy [0x1ABCDE] []).inst .i0).xft[j] = .disabled :=
  ⟨rfl, rfl, ⟨0x120, 0x7F0, by decide, by decide⟩, by decide, ⟨0x1ABC00, 0x1FFFFF00, by decide, by decide⟩, by decide⟩
theorem witness_AcceptOutcomes_miss :
    (∀ k (h : k < 128), ¬ StdHit ((loaded bench [1] []).inst .i0).sft[k] ((loaded bench [1] []).port.arg0.setWidth 11))
      ∧ ∀ k (h : k < 64), ¬ ExtHit ((loaded bench [1] []).inst .i0).xft[k]
        ((loaded bench [1] []).port.arg0.setWidth 29 &&& ((loaded bench [1] []).inst .i0).xidam) := by
  constructor <;> intro k h <;> rintro ⟨fid, m, hf, -⟩ <;>
    simp [loaded, bench, State.present, State.inst, State.reset, InstState.reset] at hf

theorem witness_ConfigurationAcceptsEveryDataFrame :
    (∃ t, exec (.init .i0) (loaded bench [20, 13, 2, 1] []) = .next t ∧ t.refused = false
      ∧ (t.inst .i0).life = .running)
    ∧ ∃ t, exec (.setBitTiming .i0) (loaded openPolicy [512, 256, 128, 128] []) = .next t ∧ t.refused = false
      ∧ (t.inst .i0).life = .running := ⟨⟨_, rfl, rfl, rfl⟩, ⟨_, rfl, rfl, rfl⟩⟩

theorem witness_ConfiguredPolicyRejectsRemoteFrames : (up.inst .i0).gfp.rrfs = true ∧ (up.inst .i0).gfp.rrfe = true
    ∧ ∃ t, exec (.filterProg .i0 true) (loaded up [0, 0, 0] []) = .next t := ⟨rfl, rfl, ⟨_, rfl⟩⟩

theorem witness_ProgrammingADisabledSlotOnlyAdds : (started.judge (.std 0x155) false).stored = true
    ∧ (started.judge (.ext 0x1ABCDE) false).stored = true ∧ started.sft[1] = .disabled ∧ started.xft[1] = .disabled := by
  decide

theorem hasTiming_loaded (s : State) (a b c d : Word) : HasTiming (loaded s [a, b, c, d] []) := by
  simp [HasTiming, loaded, issue, State.present, Port.present]

theorem witness_InitOutcomes :
    ¬ HasTiming bench ∧ (HasTiming (loaded up [20, 13, 2, 1] []) ∧ ((loaded up [20, 13, 2, 1] []).inst .i0).life ≠ .uninitialized)
      ∧ (HasTiming (loaded bench [513, 13, 2, 1] []) ∧ ((loaded bench [513, 13, 2, 1] []).inst .i0).life = .uninitialized
        ∧ ¬ ValidTiming (loaded bench [513, 13, 2, 1] []).params.timingRange (timingArgs (loaded bench [513, 13, 2, 1] [])))
      ∧ (ValidTiming (loaded bench [512, 256, 128, 128] []).params.timingRange
          (timingArgs (loaded bench [512, 256, 128, 128] []))
        ∧ (loaded bench [512, 256, 128, 128] []).params.configMayFail = false
        ∧ (loaded bench [512, 256, 128, 128] []).params.unprogrammedSlot = .disabled)
      ∧ failing.params.configMayFail = true :=
  ⟨by unfold HasTiming; decide, ⟨hasTiming_loaded _ _ _ _ _, by decide⟩,
    ⟨hasTiming_loaded _ _ _ _ _, by decide, by unfold ValidTiming; decide⟩,
    ⟨by unfold ValidTiming; decide, rfl, rfl⟩, rfl⟩

theorem witness_DeinitOutcomes : (bench.inst .i0).life ≠ .running ∧ (up.inst .i0).life = .running
    ∧ up.clkRef - 1 = 0 ∧ upBoth.clkRef - 1 ≠ 0 := by decide

theorem witness_SetBitTimingOutcomes :
    ¬ HasTiming up ∧ (HasTiming (loaded bench [20, 13, 2, 1] []) ∧ ((loaded bench [20, 13, 2, 1] []).inst .i0).life ≠ .running)
      ∧ (HasTiming (loaded up [20, 13, 2, 0] []) ∧ ((loaded up [20, 13, 2, 0] []).inst .i0).life = .running
        ∧ ¬ ValidTiming (loaded up [20, 13, 2, 0] []).params.timingRange (timingArgs (loaded up [20, 13, 2, 0] [])))
      ∧ (ValidTiming (loaded up [1, 1, 1, 1] []).params.timingRange (timingArgs (loaded up [1, 1, 1, 1] []))
        ∧ (loaded up [1, 1, 1, 1] []).params.configMayFail = false
        ∧ (loaded up [1, 1, 1, 1] []).params.reconfigQueues = .empty)
      ∧ (failing.inst .i0).life = .running ∧ failing.params.configMayFail = true :=
  ⟨by unfold HasTiming; decide, ⟨hasTiming_loaded _ _ _ _ _, by decide⟩,
    ⟨hasTiming_loaded _ _ _ _ _, by decide, by unfold ValidTiming; decide⟩,
    ⟨by unfold ValidTiming; decide, rfl, rfl⟩, rfl, rfl⟩

theorem witness_ErrorCountOutcomes : (up.inst .i0).life = .running ∧ (up.inst .i1).life ≠ .running := by decide

theorem witness_BusTxSendsTheHead :
    ((queued 1).inst .i0).life = .running ∧ ((queued 1).inst .i0).txq = sent :: []
      ∧ (2, sent.t1.extractLsb' 16 4) ∈ dlcRows ∧ sent.t1.getLsbD 23 = true ∧ ((queued 1).inst .i0).tef.length < 32
      ∧ ({ started with tef := List.replicate 32 ⟨0, 0⟩ } : InstState).tef.length = 32
      ∧ ({ sent with t1 := 0x00020000 } : TxElement).t1.getLsbD 23 = false := by decide

/-- A data frame and a remote frame of the spec's vectors. -/
def dataFrame : BusFrame := { ident := .std 0x123, rtr := false, dlc := 2, data := [0x01, 0x02] }
def remoteFrame : BusFrame := { ident := .std 0x123, rtr := true, dlc := 2, data := [] }

theorem legal_dataFrame : LegalFrame dataFrame := by
  refine ⟨fun h => absurd h (by decide), fun _ n hn => ?_⟩
  have h : ∀ row ∈ dlcRows, row.2 = (2 : BitVec 4) → row.1 = 2 := by decide
  have h1 : n = 2 := h _ hn rfl
  rw [h1]
  rfl

theorem legal_remoteFrame : LegalFrame remoteFrame := ⟨fun _ => rfl, fun h => absurd h (by decide)⟩

theorem witness_BusRxStoresAcceptedFrames :
    (LegalFrame dataFrame ∧ (bench.inst .i0).life ≠ .running)
      ∧ (LegalFrame remoteFrame ∧ (up.inst .i0).life = .running
        ∧ (up.inst .i0).judge remoteFrame.ident remoteFrame.rtr = .reject)
      ∧ ((up.inst .i0).judge dataFrame.ident dataFrame.rtr = .fifo0 0 ∧ (up.inst .i0).rxf0.length < 64)
      ∧ (openPolicy.inst .i0).judge (.std 0x7FF) false = .fifo0NoMatch
      ∧ (openPolicy.inst .i0).judge (.ext 0) false = .fifo1
      ∧ (64 ≤ ({ started with rxf0 := List.replicate 64 entry } : InstState).rxf0.length
        ∧ params.rxOverflow = .dropNew) := by
  refine ⟨⟨legal_dataFrame, by decide⟩, ⟨legal_remoteFrame, rfl, by decide⟩, ⟨by decide, by decide⟩, ?_, ?_, ?_⟩
  · decide +kernel
  · decide +kernel
  · decide

theorem witness_BusStepsNeedARunningInstance : (up.inst .i1).life ≠ .running ∧ (up.inst .i0).txq = [] := by decide

theorem witness_FramesLeaveInSubmissionOrder :
    ((queued 32).inst .i0).life = .running ∧ 32 ≤ ((queued 32).inst .i0).txq.length
      ∧ ({ queued 32 with agenda := List.replicate 32 (.busTx .i0) } : State).agenda
        = List.replicate 32 (.busTx .i0) ++ [] := by decide

theorem witness_BusTurnsOnlyLowerTheFillLevel :
    (∀ x ∈ ({ queued 2 with agenda := [.busTx .i0, .busRx .i0 dataFrame] } : State).agenda.take 2, IsBusTurn x)
      ∧ ∃ t, core.run 2 { queued 2 with agenda := [.busTx .i0, .busRx .i0 dataFrame] } = .next t := by
  refine ⟨?_, ⟨_, rfl⟩⟩
  intro x hx
  simp at hx
  rcases hx with rfl | rfl <;> exact trivial

theorem witness_ArrivedFrameIsReadBack :
    (up.inst .i0).life = .running ∧ (up.inst .i0).rxf0 = [] ∧ LegalFrame dataFrame ∧ dataFrame.rtr = false
      ∧ ((up.inst .i0).judge dataFrame.ident false).stored = true ∧ up.params.rxReadMayFail = false
      ∧ up.params.rxOverlength = .truncate := ⟨rfl, rfl, legal_dataFrame, rfl, by decide, rfl, rfl⟩

theorem witness_StepRunsTheDecodedCommand :
    ({ bench with agenda := [.host (issue 2 [15] [])] } : State).agenda = .host (issue 2 [15] []) :: []
      ∧ ({ bench with agenda := [.host (issue 2 [15] [])] } : State).hostStop? = none
      ∧ decode (issue 2 [15] []).cmd = .ok .dlcDec
      ∧ ∃ t, exec .dlcDec ((State.beginTurn [] bench).present (issue 2 [15] [])) = .next t :=
  ⟨rfl, rfl, rfl, ⟨_, rfl⟩⟩

theorem witness_StepTakesTheNextTurn : bench.agenda = []
    ∧ ({ up with agenda := [.busTx .i1] } : State).agenda = .busTx .i1 :: []
    ∧ ({ up with agenda := [.busRx .i0 dataFrame] } : State).agenda = .busRx .i0 dataFrame :: [] := by decide

/-- A state whose host stopped. -/
def stopped : State := { bench with refused := true, refuseReason := some .notRunning, agenda := [.host (issue 1 [] [])] }

theorem witness_StoppedHostHasNoFurtherStep :
    stopped.agenda = .host (issue 1 [] []) :: [] ∧ stopped.refused = true ∧ step stopped = .fault .hostRefused :=
  ⟨rfl, rfl, rfl⟩

theorem witness_PositionAdvancesOnTypedResults :
    (∃ t, step { bench with agenda := [.host (issue 2 [15] [])] } = .next t ∧ t.hostStop? = none)
      ∧ (∃ t, step { bench with agenda := [.host (issue 1 [9] [])] } = .next t ∧ t.hostStop? ≠ none)
      ∧ ∃ t, step { up with agenda := [.busTx .i0] } = .next t :=
  ⟨⟨_, rfl, rfl⟩, ⟨_, rfl, by decide⟩, ⟨_, rfl⟩⟩

theorem witness_UninitializedInstanceRefusesCommands :
    NeedsRunning (.write .i0 true true) ∧ target (.write .i0 true true) = some .i0
      ∧ (bench.inst .i0).life = .uninitialized := ⟨trivial, rfl, rfl⟩

theorem witness_UndefinedLengthChangesNothingElse :
    (loaded bench [65] []).undef = false ∧ ∃ t, exec .dlcEnc (loaded bench [65] []) = .next t ∧ t.undef = true :=
  ⟨rfl, _, rfl, rfl⟩

theorem witness_RefusalChangesNothingElse :
    bench.refused = false ∧ ∃ t, exec (.read .i0) bench = .next t ∧ t.refused = true := ⟨rfl, _, rfl, rfl⟩

theorem witness_FatalFaultHaltsAndReports :
    ∃ t, exec (.filterProg .i0 true) (loaded up [64, 0, 0] []) = .next t
      ∧ (t.inst .i0).fatal ≠ ((loaded up [64, 0, 0] []).inst .i0).fatal := ⟨_, rfl, by decide⟩

/-- A state with a fatal fault on instance 0 while instance 1 runs. -/
def faulted : State :=
  { upBoth with
    inst0 := { started with life := .halted, fatal := some { kind := .hardwareFault, code := 5 } }
    undef := true, refused := true, agenda := [.busTx .i1] }

theorem witness_StickyOutcomesStay : (∃ t, step faulted = .next t) ∧ faulted.undef = true ∧ faulted.refused = true
    ∧ (faulted.inst .i0).fatal = some { kind := .hardwareFault, code := 5 } := ⟨⟨_, rfl⟩, rfl, rfl, rfl⟩

theorem witness_OtherInstanceIsNeitherReadNorWritten :
    target (.deinit .i0) ≠ some .i1 ∧ (∃ t, exec (.deinit .i0) upBoth = .next t) ∧ InstId.i0 ≠ .i1 :=
  ⟨by decide, ⟨_, rfl⟩, by decide⟩

theorem witness_QueriesChangeNoBlockState :
    IsQuery (.txFree .i0) ∧ (∃ t, exec (.txFree .i0) up = .next t) ∧ Instr.txFree .i0 ≠ .frameDec :=
  ⟨trivial, ⟨_, rfl⟩, by decide⟩

theorem witness_LifecycleFollowsTheTable : ∃ t, exec (.deinit .i0) up = .next t ∧ (t.inst .i0).life = .uninitialized :=
  ⟨_, rfl, rfl⟩

theorem witness_CommandsKeepParametersAndOperands : ∃ t, exec (.write .i0 false false) (loaded up [1] [7]) = .next t :=
  ⟨_, rfl⟩

/-- The invariant is met by a state in which an instance runs and has something queued and received. -/
theorem inv_started (txq : List TxElement) (rxf0 : List RxEntry) (ht : txq = [] ∨ txq = [sent])
    (hr : rxf0 = [] ∨ rxf0 = [entry]) : ({ started with txq := txq, rxf0 := rxf0 } : InstState).Inv params := by
  have hs : sent.Encoded params.layout := ⟨by decide, by decide, by decide, by decide, by decide, by decide⟩
  have he : entry.data.length = 64 ∧ wordRtr params.layout entry.r0 = false := by decide
  refine ⟨.inr (.inl rfl), ?_, rfl, ?_, Nat.zero_le _, ?_, ?_, ?_, ?_, fun h => ?_, fun _ => rfl, fun _ => rfl,
    fun _ => ?_, ?_, ?_⟩
  · simp [started, InstState.reset]
  · rcases ht with rfl | rfl <;> simp
  · rcases hr with rfl | rfl <;> simp
  · rcases ht with rfl | rfl <;> simp [hs]
  · rcases hr with rfl | rfl <;> simp [he]
  · rcases hr with rfl | rfl <;> simp [he]
  · simp [started] at h
  · show validTiming params.timingRange started.timing = true
    decide
  · show started.recRaw < 2 ^ params.hwCounterWidth
    decide
  · show started.tecRaw < 2 ^ params.hwCounterWidth
    decide

theorem inv_uninitialized : InstState.reset.Inv params := by
  refine ⟨.inl rfl, ?_, rfl, by decide, by decide, by decide, ?_, ?_, ?_, fun _ => ⟨rfl, rfl, rfl⟩, ?_, ?_, ?_, by decide,
    by decide⟩
  · decide
  · intro e he; exact absurd he (by simp [InstState.reset])
  · intro e he; exact absurd he (by simp [InstState.reset])
  · intro e he; exact absurd he (by simp [InstState.reset])
  · intro h; exact absurd h (by decide)
  · intro h; exact absurd h (by decide)
  · intro h; exact absurd h (by decide)

theorem witness_StepKeepsTheInvariant :
    ({ up with inst0 := { started with txq := [sent], rxf0 := [entry] }, agenda := [.busTx .i0] } : State).Inv
      ∧ ∃ t, step { up with inst0 := { started with txq := [sent], rxf0 := [entry] }, agenda := [.busTx .i0] } = .next t :=
  ⟨⟨inv_started _ _ (.inr rfl) (.inr rfl), inv_uninitialized, by decide, by decide, by decide, by decide, by decide,
    by decide⟩, ⟨_, rfl⟩⟩

end Sys2Proof.Tests
end

section
/-! The host's position (10_state.md R21): no command and no bus step writes it, so only the turn's own advance of it
is left. -/

namespace Sys2Proof.Machine

variable (s : State) (i : InstId)

/-! ### The position over the operations a command is made of -/

@[simp] theorem State.bringUp_hostPos : (s.bringUp i).hostPos = s.hostPos := by simp [State.bringUp]

@[simp] theorem State.releaseClock_hostPos : s.releaseClock.hostPos = s.hostPos := by
  unfold State.releaseClock
  split <;> rfl

@[simp] theorem configure_finish_hostPos (t : Timing) : (configure i t s).finish.hostPos = s.hostPos := by
  obtain h | ⟨-, h⟩ | ⟨-, h⟩ := configure_cases i t s <;> simp [h]

/-! ### The position over commands and bus steps -/

/-- No command writes the host's position: it stands outside the block. -/
theorem Effect.hostPos_eq {s t : State} {c : Instr} (h : Effect s c t) : t.hostPos = s.hostPos := by
  cases h <;> simp

theorem busTx_hostPos : (busTx i s).hostPos = s.hostPos := by
  obtain ⟨q, v, out, h, -⟩ := busTx_frame i s
  simp [h]

theorem busRx_hostPos (bf : BusFrame) : (busRx i bf s).hostPos = s.hostPos := by
  obtain ⟨q, h, -⟩ := busRx_frame i bf s
  simp [h]

/-! ### The position over a step -/

/-- The host's stop does not depend on its position. -/
theorem State.hostStop?_withHostPos (n : Nat) : { s with hostPos := n }.hostStop? = s.hostStop? := rfl

/-- A step that is no host turn keeps the position. -/
theorem step_hostPos_of_not_host {s t : State} (h : step s = .next t) (hn : ¬ ∃ c rest, s.agenda = .host c :: rest) :
    t.hostPos = s.hostPos := by
  obtain ⟨-, rfl⟩ | ⟨i, rest, -, rfl⟩ | ⟨i, bf, rest, -, rfl⟩ | ⟨c, rest, _, ha, -⟩ := step_next h
  · rfl
  · rw [busTx_hostPos, State.beginTurn_hostPos]
  · rw [busRx_hostPos, State.beginTurn_hostPos]
  · exact absurd ⟨c, rest, ha⟩ hn

/-- A host turn advances the position by one when the host can go on after it, and keeps it otherwise. -/
theorem step_hostPos_of_host {s t : State} (h : step s = .next t) (hh : ∃ c rest, s.agenda = .host c :: rest) :
    t.hostPos = if t.hostStop?.isSome then s.hostPos else s.hostPos + 1 := by
  obtain ⟨c', rest', ha'⟩ := hh
  obtain ⟨ha, -⟩ | ⟨i, rest, ha, -⟩ | ⟨i, bf, rest, ha, -⟩ | ⟨c, rest, u, -, -, hu, rfl⟩ := step_next h
  · simp [ha'] at ha
  · simp [ha'] at ha
  · simp [ha'] at ha
  · have hpos : u.hostPos = s.hostPos := by
      obtain rfl | ⟨i, -, hx⟩ := hu
      · simp
      · simpa using (effect_of_exec hx).hostPos_eq
    by_cases hs : u.hostStop?.isSome
    · simp [hs, hpos]
    · simp [hs, State.hostStop?_withHostPos, hpos]

/-- Settles O42: a command and a bus step leave the position alone, so a host turn changes it by its own advance only,
and the advance depends on whether the outcome stopped the host. -/
theorem positionAdvancesOnTypedResults : Obligations.PositionAdvancesOnTypedResults := by
  intro s t h
  refine ⟨fun hh hs => ?_, fun hh hs => ?_, step_hostPos_of_not_host h⟩
  · simpa [hs] using step_hostPos_of_host h hh
  · simpa [Option.isSome_iff_ne_none.mpr hs] using step_hostPos_of_host h hh

end Sys2Proof.Machine
end

section
/-! Illegal command words (30_encoding.md R93): a word that decodes has the fields of its command, these are
well-formed, and the fields of an illegal word are not; so the turn that presents one refuses it. -/

namespace Sys2Proof

/-! ### The fields of a word that decodes -/

@[simp] theorem InstId.toBit_ofBit (b : Bool) : (InstId.ofBit b).toBit = b := by cases b <;> rfl

theorem noFlags_eq_ok {c : RawCmd} {i j : Instr} :
    noFlags c i = .ok j ↔ c.inst = false ∧ c.xtd = false ∧ c.rtr = false ∧ i = j := by
  unfold noFlags
  cases c.inst <;> cases c.xtd <;> cases c.rtr <;> simp

theorem instOnly_eq_ok {c : RawCmd} {i j : Instr} :
    instOnly c i = .ok j ↔ c.xtd = false ∧ c.rtr = false ∧ i = j := by
  unfold instOnly
  cases c.xtd <;> cases c.rtr <;> simp

theorem frameFlags_eq_ok {c : RawCmd} {i j : Instr} : frameFlags c i = .ok j ↔ c.inst = false ∧ i = j := by
  unfold frameFlags
  cases c.inst <;> simp

theorem instXtd_eq_ok {c : RawCmd} {i j : Instr} : instXtd c i = .ok j ↔ c.rtr = false ∧ i = j := by
  unfold instXtd
  cases c.rtr <;> simp

/-- Fields are those of `c` when the reserved bits, the opcode and the three flags agree. -/
theorem rawOf_eq {c : RawCmd} {opc : BitVec 8} {inst xtd rtr : Bool} (hres : c.reserved = 0)
    (hopc : c.opc.toNat = opc.toNat) (hinst : inst = c.inst) (hxtd : xtd = c.xtd) (hrtr : rtr = c.rtr) :
    rawOf opc inst xtd rtr = c := by
  rw [rawOf, hinst, hxtd, hrtr, ← hres, ← BitVec.eq_of_toNat_eq hopc]

theorem raw_of_noFlags {c : RawCmd} {i j : Instr} {opc : BitVec 8} (h : noFlags c i = .ok j)
    (hi : i.raw = rawOf opc false false false) (hres : c.reserved = 0)
    (hopc : c.opc.toNat = opc.toNat) : j.raw = c := by
  obtain ⟨hinst, hxtd, hrtr, rfl⟩ := noFlags_eq_ok.mp h
  rw [hi, rawOf_eq hres hopc hinst.symm hxtd.symm hrtr.symm]

theorem raw_of_instOnly {c : RawCmd} {i j : Instr} {opc : BitVec 8} (h : instOnly c i = .ok j)
    (hi : i.raw = rawOf opc (InstId.ofBit c.inst).toBit false false) (hres : c.reserved = 0)
    (hopc : c.opc.toNat = opc.toNat) : j.raw = c := by
  obtain ⟨hxtd, hrtr, rfl⟩ := instOnly_eq_ok.mp h
  rw [hi, rawOf_eq hres hopc (InstId.toBit_ofBit _) hxtd.symm hrtr.symm]

/-- The decoder loses no field: what it answers has the fields it was given. -/
theorem raw_of_decodeRaw {c : RawCmd} {i : Instr} (h : decodeRaw c = .ok i) : i.raw = c := by
  unfold decodeRaw at h
  split at h
  next => cases h
  next hres =>
    replace hres := not_not.mp hres
    split at h
    next hopc => exact raw_of_noFlags h rfl hres hopc
    next hopc => exact raw_of_noFlags h rfl hres hopc
    next hopc =>
      obtain ⟨hinst, rfl⟩ := frameFlags_eq_ok.mp h
      exact rawOf_eq hres hopc hinst.symm rfl rfl
    next hopc => exact raw_of_noFlags h rfl hres hopc
    next hopc =>
      cases h
      exact rawOf_eq hres hopc (InstId.toBit_ofBit _) rfl rfl
    next hopc => exact raw_of_instOnly h rfl hres hopc
    next hopc =>
      obtain ⟨hrtr, rfl⟩ := instXtd_eq_ok.mp h
      exact rawOf_eq hres hopc (InstId.toBit_ofBit _) rfl hrtr.symm
    next hopc =>
      cases h
      exact rawOf_eq hres hopc (InstId.toBit_ofBit _) rfl rfl
    next hopc => exact raw_of_instOnly h rfl hres hopc
    next hopc => exact raw_of_instOnly h rfl hres hopc
    next hopc => exact raw_of_instOnly h rfl hres hopc
    next hopc => exact raw_of_instOnly h rfl hres hopc
    next hopc => exact raw_of_instOnly h rfl hres hopc
    next hopc => exact raw_of_instOnly h rfl hres hopc
    next => cases h

/-- A word that decodes is legal. -/
theorem wf_of_decode {w : Word} {i : Instr} (h : decode w = .ok i) : (RawCmd.ofWord w).wf = true :=
  raw_of_decodeRaw h ▸ i.raw_wf

end Sys2Proof

namespace Sys2Proof.Claims

open Sys2Proof.Machine

/-! ### The fields of an illegal word -/

/-- The claims' command map and the model's say the same of every opcode that has a row. -/
theorem flagUse_of_mem_commandRows :
    ∀ row ∈ commandRows, flagUse row.1 = some { inst := row.2.1, xtd := row.2.2.1, rtr := row.2.2.2 } := by
  simp [commandRows, flagUse]

/-- The model's command map has no row for an opcode that the claims' has none for. -/
theorem flagUse_eq_none_of_no_row {opc : BitVec 8} (h : ∀ row ∈ commandRows, row.1 ≠ opc) : flagUse opc = none := by
  have unknown : ∀ n ∈ commandRows.map (·.1.toNat), opc.toNat ≠ n := by
    intro n hn ho
    obtain ⟨row, hrow, rfl⟩ := List.mem_map.mp hn
    exact h row hrow (BitVec.eq_of_toNat_eq ho.symm)
  unfold flagUse
  split
  case h_15 => rfl
  all_goals
    next ho => exact absurd ho (unknown _ (by decide))

/-- The fields of an illegal word fail the check that its clause of 30_encoding.md R93 names. -/
theorem IllegalWord.wf_eq_false {w : Word} (h : IllegalWord w) : (RawCmd.ofWord w).wf = false := by
  obtain hres | hopc | ⟨row, hrow, hopc, hflag⟩ := h
  · have : (RawCmd.ofWord w).reservedClear = false := beq_eq_false_iff_ne.mpr hres
    simp [RawCmd.wf, this]
  · have huse : flagUse (RawCmd.ofWord w).opc = none := flagUse_eq_none_of_no_row hopc
    have : (RawCmd.ofWord w).opcodeKnown = false := by rw [RawCmd.opcodeKnown, huse, Option.isSome_none]
    simp [RawCmd.wf, this]
  · have huse : flagUse (RawCmd.ofWord w).opc = _ := hopc ▸ flagUse_of_mem_commandRows row hrow
    have : (RawCmd.ofWord w).flagsAllowed = false := by
      simp only [RawCmd.flagsAllowed, huse]
      obtain ⟨hw, hu⟩ | ⟨hw, hu⟩ | ⟨hw, hu⟩ := hflag <;> simp [RawCmd.ofWord, hw, hu]
    simp [RawCmd.wf, this]

/-- The decoder rejects an illegal word. -/
theorem IllegalWord.decode_eq_error {w : Word} (h : IllegalWord w) : ∃ e, decode w = .error e := by
  cases hd : decode w with
  | error e => exact ⟨e, rfl⟩
  | ok i => exact absurd (wf_of_decode hd) (by simp [h.wf_eq_false])

end Sys2Proof.Claims

namespace Sys2Proof.Machine

open Sys2Proof.Claims

/-! ### The turn that presents a word -/

theorem refusedWith_eq_refuse (s : State) (why : RefuseReason) : refusedWith s why = s.refuse why := rfl

/-- A refusal stops the host. -/
theorem State.refuse_hostStop?_isSome (s : State) (why : RefuseReason) : (s.refuse why).hostStop?.isSome = true := by
  rw [Option.isSome_iff_ne_none, Ne, State.hostStop?_eq_none]
  simp

/-- A command that refuses ends its turn in the refusal: the position stays. -/
theorem advancePos_refuse (s : State) (why : RefuseReason) :
    advancePos (.next (s.refuse why)) = .next (s.refuse why) := by
  rw [advancePos, if_pos (s.refuse_hostStop?_isSome why)]

/-- A word that does not decode is refused. -/
theorem runPort_of_decode_error {s : State} {e : DecodeError} (h : decode s.port.cmd = .error e) :
    runPort s = .next (s.refuse .illegalCommand) := by
  rw [runPort, h]

/-- A host that can go on presents its command and runs the command port. -/
theorem step_of_host {s : State} {c : Issue} {rest : List Turn} (ha : s.agenda = .host c :: rest)
    (hs : s.hostStop? = none) : step s = advancePos (runPort ((s.beginTurn rest).present c)) := by
  simp [step, ha, takeTurn, hostTurn, State.beginTurn_hostStop?, hs]

/-! ### `ARG0[31:4]` of DLC_DEC -/

/-- The bits above a code are not all 0 when the operand is 16 or more. -/
theorem field_code_ne_zero {a : Word} (h : 16 ≤ a.toNat) : field a 4 28 ≠ 0 := by
  intro h0
  have hnat : a.toNat >>> 4 % 2 ^ 28 = 0 := by simpa [field] using congrArg BitVec.toNat h0
  have := a.isLt
  omega

/-- DLC_DEC refuses an operand with a bit above the code. -/
theorem exec_dlcDec_of_wide {s : State} (hw : s.port.written.arg0 = true) (h : field s.port.arg0 4 28 ≠ 0) :
    exec .dlcDec s = .next (s.refuse .illegalCommand) := by
  simp only [exec, execDlcDec, s.arg0?_written hw, if_pos h]

/-- Settles O4: an illegal word does not decode, so its turn ends in the refusal, which keeps the position; a DLC_DEC
operand of 16 or more has a bit above the code. -/
theorem illegalCommandIsRefused : Obligations.IllegalCommandIsRefused := by
  constructor
  · intro s c rest ha hs hw
    obtain ⟨e, he⟩ := hw.decode_eq_error
    have hrun := runPort_of_decode_error (s := (s.beginTurn rest).present c) he
    rw [step_of_host ha hs, hrun, advancePos_refuse, refusedWith_eq_refuse]
  · intro s hw h
    rw [exec_dlcDec_of_wide hw (field_code_ne_zero h), refusedWith_eq_refuse]

end Sys2Proof.Machine
end

section
/-! The DLC table (40_dlc_table.md R120, R123): both directions of the model's table are the rows of R120, and what
follows for the whole of it is read off the rows. Then DLC_ENC (R121). -/

namespace Sys2Proof.Machine

open Sys2Proof.Claims

/-! ### The rows -/

/-- `LEN_SET` is the column of byte counts. -/
theorem mem_lenSet_iff {n : Nat} : n ∈ lenSet ↔ ∃ c, (n, c) ∈ dlcRows := by
  have h : lenSet = dlcRows.map Prod.fst := rfl
  simp [h]

theorem bytesToDlc_of_mem_dlcRows : ∀ row ∈ dlcRows, bytesToDlc row.1 = some row.2 := by decide

theorem dlcToBytes_of_mem_dlcRows : ∀ row ∈ dlcRows, dlcToBytes row.2 = row.1 := by decide

/-- Every code has a row, the one with the count it stands for. -/
theorem dlcToBytes_mem_dlcRows : ∀ c, (dlcToBytes c, c) ∈ dlcRows := by decide

theorem mem_dlcRows_of_bytesToDlc {n : Nat} {c : BitVec 4} (h : bytesToDlc n = some c) : (n, c) ∈ dlcRows := by
  unfold bytesToDlc at h
  split at h
  case h_17 => cases h
  all_goals
    cases h
    decide

/-! ### The table -/

theorem bytesToDlc_eq_some_iff {n : Nat} {c : BitVec 4} : bytesToDlc n = some c ↔ (n, c) ∈ dlcRows :=
  ⟨mem_dlcRows_of_bytesToDlc, bytesToDlc_of_mem_dlcRows (n, c)⟩

theorem bytesToDlc_eq_none_iff {n : Nat} : bytesToDlc n = none ↔ n ∉ lenSet := by
  simp only [Option.eq_none_iff_forall_ne_some, ne_eq, bytesToDlc_eq_some_iff, mem_lenSet_iff, not_exists]

/-- Each code stands for more bytes than the code before it, so a greater code stands for a greater count. -/
theorem dlcToBytes_lt_dlcToBytes {c c' : BitVec 4} (h : c.toNat < c'.toNat) : dlcToBytes c < dlcToBytes c' := by
  have mono : StrictMono fun k : Fin 16 => dlcToBytes (.ofFin k) := Fin.strictMono_iff_lt_succ.mpr (by decide)
  exact mono (a := c.toFin) (b := c'.toFin) h

/-- Settles O10: the two directions are the two columns of the rows, every code has a row, and the counts increase from
one code to the next. -/
theorem dlcTableIsAStrictBijection : Obligations.DlcTableIsAStrictBijection := by
  refine ⟨fun n c => bytesToDlc_eq_some_iff, fun n => ?_, fun n c h => ?_, fun c => ?_,
    fun c c' => dlcToBytes_lt_dlcToBytes⟩
  · simp only [bytesToDlc_eq_some_iff, mem_lenSet_iff]
  · exact dlcToBytes_of_mem_dlcRows (n, c) (bytesToDlc_eq_some_iff.mp h)
  · exact bytesToDlc_eq_some_iff.mpr (dlcToBytes_mem_dlcRows c)

/-! ### DLC_ENC -/

/-- A value placed at bit 0 is the value zero-extended. -/
@[simp] theorem placed_zero {w : Nat} (v : BitVec w) : placed v 0 = v.setWidth 32 := BitVec.shiftLeft_zero _

theorem undefinedWith_eq_raiseUndefined (s : State) (n : Nat) : undefinedWith s n = s.raiseUndefined n := rfl

/-- An answer in `RES0` with `STATUS = Ok` is the claims' next state of one. -/
theorem withRes0_ok_eq_done (s : State) (v : Word) : withRes0 s 0x00 v = (s.setRes0 v).done := rfl

section
variable {s : State}

theorem exec_dlcEnc_of_unwritten (hw : s.port.written.arg0 = false) :
    exec .dlcEnc s = .next (s.refuse .unwrittenOperand) := by
  simp only [exec, execDlcEnc, s.arg0?_unwritten hw]

theorem exec_dlcEnc_of_some {c : BitVec 4} (hw : s.port.written.arg0 = true)
    (hc : bytesToDlc s.port.arg0.toNat = some c) : exec .dlcEnc s = .next (s.setRes0 (c.setWidth 32)).done := by
  simp only [exec, execDlcEnc, s.arg0?_written hw, hc, placed_zero]

theorem exec_dlcEnc_of_none (hw : s.port.written.arg0 = true) (hn : bytesToDlc s.port.arg0.toNat = none) :
    exec .dlcEnc s = .next (s.raiseUndefined s.port.arg0.toNat) := by
  simp only [exec, execDlcEnc, s.arg0?_written hw, hn]

end

/-- Settles O11: DLC_ENC answers what its table lookup says of a written `ARG0`, and the lookup fails exactly outside
`LEN_SET`. -/
theorem dlcEncOutcomes : Obligations.DlcEncOutcomes := by
  refine ⟨rfl, fun s => ⟨fun hw => ?_, fun hw => ⟨fun n c hrow hn => ?_, fun hn => ?_⟩⟩⟩
  · rw [exec_dlcEnc_of_unwritten hw, refusedWith_eq_refuse]
  · have hc : bytesToDlc s.port.arg0.toNat = some c := hn ▸ bytesToDlc_eq_some_iff.mpr hrow
    rw [exec_dlcEnc_of_some hw hc, withRes0_ok_eq_done]
  · rw [exec_dlcEnc_of_none hw (bytesToDlc_eq_none_iff.mpr hn), undefinedWith_eq_raiseUndefined]

end Sys2Proof.Machine
end

section
/-! The words the encoder makes (41_frame_encoder.md R141 to R144): `enc` gives one header for each code, its words are
the formulas of the claims, and their fields are read back one by one. -/

namespace Sys2Proof.Machine

open Sys2Proof.Claims

/-! ### The header `enc` gives -/

/-- The header of a frame with length code `c`: the fields the host chooses and the constants of
41_frame_encoder.md R143. -/
def encodedHeader (id : Word) (xtd rtr : Bool) (c : BitVec 4) : TxHeader :=
  { ident := identOf xtd id, rtr := rtr, esi := false, dlc := c, brs := false, fdf := false, efc := true, mm := 0 }

section
variable {p : Params} {id : Word} {xtd rtr : Bool} {payload : List Byte} {c : BitVec 4}

theorem enc_of_not_mem_lenSet (h : payload.length ∉ lenSet) :
    enc p id xtd rtr payload = .undefinedLength payload.length := by
  rw [enc, bytesToDlc_eq_none_iff.mpr h]

theorem enc_of_rejected (h : payload.length ∈ lenSet) (h8 : 8 < payload.length)
    (hr : p.classicOverlength = .reject) : enc p id xtd rtr payload = .lengthRejected payload.length := by
  obtain ⟨c, hc⟩ := mem_lenSet_iff.mp h
  simp only [enc, bytesToDlc_eq_some_iff.mpr hc, if_pos (And.intro h8 hr)]

theorem enc_of_mem_dlcRows (hc : (payload.length, c) ∈ dlcRows)
    (h : payload.length ≤ 8 ∨ p.classicOverlength = .truncate) :
    enc p id xtd rtr payload = .header (encodedHeader id xtd rtr c) := by
  have hn : ¬ (8 < payload.length ∧ p.classicOverlength = .reject) := by
    rintro ⟨h8, hr⟩
    obtain h | h := h
    · omega
    · simp [hr] at h
  simp only [enc, bytesToDlc_eq_some_iff.mpr hc, if_neg hn, encodedHeader]

/-- When `enc` gives a header, it gives the same one for any identifier, up to the identifier (R142). -/
theorem enc_header_any_id {h : TxHeader} (he : enc p id xtd rtr payload = .header h) :
    ∃ c, h = encodedHeader id xtd rtr c ∧ ∀ id', enc p id' xtd rtr payload = .header (encodedHeader id' xtd rtr c) := by
  obtain ⟨c, hc, hr, rfl⟩ := enc_header he
  refine ⟨c, rfl, fun id' => enc_of_mem_dlcRows (bytesToDlc_eq_some_iff.mp hc) ?_⟩
  cases ho : p.classicOverlength with
  | truncate => exact .inr rfl
  | reject => exact .inl (Nat.le_of_not_lt fun h8 => hr h8 ho)

end

/-! ### Its words, by the formulas of 30_encoding.md R81 and R82 -/

theorem flagBit_eq_bit_shiftLeft (b : Bool) (n : Nat) : flagBit b n = bit b <<< n := by
  cases b <;> simp [flagBit, bit]

/-- A masked identifier stands where its type's field is. -/
theorem identField_identOf (xtd : Bool) (id : Word) :
    identField (identOf xtd id) = if xtd then id &&& 0x1FFFFFFF else (id &&& 0x7FF) <<< 18 := by
  cases xtd with
  | false => exact congrArg (fun w : Word => w <<< 18) (setWidth_field_std id)
  | true => exact (placed_zero _).trans (setWidth_field_ext id)

theorem encodedHeader_t0 (L : Layout) (id : Word) (xtd rtr : Bool) (c : BitVec 4) :
    (encodedHeader id xtd rtr c).t0 L = headerT0 id xtd rtr := by
  cases L
  simp [TxHeader.t0, idWord, encodedHeader, headerT0, identField_identOf, flagBit_eq_bit_shiftLeft, bit]

theorem encodedHeader_t1 (L : Layout) (id : Word) (xtd rtr : Bool) (c : BitVec 4) :
    (encodedHeader id xtd rtr c).t1 L = headerT1 c := by
  cases L
  simp [TxHeader.t1, encodedHeader, headerT1, placed, flagBit]

/-! ### The fields of header words -/

@[simp] theorem getLsbD_idWord_xtd (L : Layout) (a : Ident) (rtr esi : Bool) :
    (idWord L a rtr esi).getLsbD 30 = identXtd a := by
  cases L
  cases a <;> simp [idWord, identField]

@[simp] theorem wordRtr_idWord (L : Layout) (a : Ident) (rtr esi : Bool) : wordRtr L (idWord L a rtr esi) = rtr := by
  cases L
  cases a <;> simp [wordRtr, idWord, identField]

theorem field_idWord_ext (L : Layout) (v : BitVec 29) (rtr esi : Bool) :
    field (idWord L (.ext v) rtr esi) 0 29 = v := by
  cases L
  apply BitVec.eq_of_getLsbD_eq
  intro k hk
  have hf : k ≠ 31 ∧ k ≠ 30 ∧ k ≠ 29 := by omega
  have hw : k < 32 := by omega
  simp [idWord, identField, hk, hf, hw]

theorem field_idWord_std (L : Layout) (v : BitVec 11) (rtr esi : Bool) :
    field (idWord L (.std v) rtr esi) 18 11 = v := by
  cases L
  apply BitVec.eq_of_getLsbD_eq
  intro k hk
  have hf : 18 + k ≠ 31 ∧ 18 + k ≠ 30 ∧ 18 + k ≠ 29 := by omega
  have hw : 18 + k < 32 := by omega
  simp [idWord, identField, hk, hf, hw]

/-- A standard identifier leaves bits 17:0 clear (30_encoding.md R81). -/
theorem field_idWord_std_low (L : Layout) (v : BitVec 11) (rtr esi : Bool) :
    field (idWord L (.std v) rtr esi) 0 18 = 0 := by
  cases L
  apply BitVec.eq_of_getLsbD_eq
  intro k hk
  have hf : k ≠ 31 ∧ k ≠ 30 ∧ k ≠ 29 := by omega
  have hl : ¬ 18 ≤ k := by omega
  simp [idWord, identField, hf, hl]

/-- Bits 22 and 15:0 of `T1` are reserved (30_encoding.md R82). -/
theorem t1_reserved_clear (L : Layout) (h : TxHeader) : (h.t1 L).getLsbD 22 = false ∧ field (h.t1 L) 0 16 = 0 := by
  cases L
  constructor
  · simp [TxHeader.t1]
  · apply BitVec.eq_of_getLsbD_eq
    intro k hk
    have hf : k ≠ 23 ∧ k ≠ 21 ∧ k ≠ 20 := by omega
    have hl : ¬ 24 ≤ k ∧ ¬ 16 ≤ k := by omega
    simp [TxHeader.t1, hf, hl]

/-- Equal low 29 bits are equal words under `EXT_ID_MASK`. -/
theorem and_extMask_eq_of_field_eq {v w : Word} (h : field v 0 29 = field w 0 29) :
    v &&& 0x1FFFFFFF = w &&& 0x1FFFFFFF := by
  rw [← setWidth_field_ext, ← setWidth_field_ext, h]

/-- Settles O13: `enc` gives `encodedHeader`, whose length code and constants are the encoder's form
(`enc_encoded`); the identifier, the tags and the reserved bits are read back from the words. -/
theorem encodedHeaderFields : Obligations.EncodedHeaderFields := by
  intro p id xtd rtr payload h he
  obtain ⟨c, rfl, hany⟩ := enc_header_any_id he
  obtain ⟨dlc, esi, brs, fdf, efc, mm⟩ := enc_encoded he
  obtain ⟨bit22, low⟩ := t1_reserved_clear p.layout (encodedHeader id xtd rtr c)
  generalize p.layout = L at dlc esi brs fdf efc mm bit22 low ⊢
  cases L
  refine ⟨?ext, ?std, esi, ?xtd, wordRtr_idWord .fdcanH7 (identOf xtd id) rtr false, bytesToDlc_eq_some_iff.mp dlc, efc,
    fdf, brs, mm, bit22, low, fun id' => ⟨_, hany id'⟩⟩
  case ext =>
    rintro rfl
    exact and_extMask_eq_of_field_eq (field_idWord_ext .fdcanH7 _ rtr false)
  case std =>
    rintro rfl
    exact ⟨field_idWord_std .fdcanH7 _ rtr false, field_idWord_std_low .fdcanH7 _ rtr false⟩
  case xtd => exact (getLsbD_idWord_xtd .fdcanH7 _ rtr false).trans (identXtd_identOf xtd id)

end Sys2Proof.Machine
end

section
/-! FRAME_ENC (41_frame_encoder.md R140). -/

namespace Sys2Proof.Machine

open Sys2Proof.Claims

variable {s : State} {xtd rtr : Bool} {data : List Byte}

/-! ### The payload operand -/

theorem payload?_of_hasPayload (h : HasPayload s data) : s.payload? = some data := by
  obtain ⟨hlen, hbytes, rfl⟩ := h
  exact s.payload?_written hlen hbytes

/-! ### The outcomes -/

theorem exec_frameEnc_of_unwritten (h : s.port.written.arg0 = false ∨ LacksPayload s) :
    exec (.frameEnc xtd rtr) s = .next (s.refuse .unwrittenOperand) := by
  obtain h | h := h
  · simp only [exec, execFrameEnc, s.arg0?_unwritten h]
  · simp only [exec, execFrameEnc, s.payload?_unwritten h]
    cases s.arg0? <;> rfl

section
variable (hw : s.port.written.arg0 = true) (hp : HasPayload s data)
include hw hp

theorem exec_frameEnc_of_undefinedLength {n : Nat}
    (he : enc s.params s.port.arg0 xtd rtr data = .undefinedLength n) :
    exec (.frameEnc xtd rtr) s = .next (s.raiseUndefined n) := by
  simp only [exec, execFrameEnc, s.arg0?_written hw, payload?_of_hasPayload hp, he]

theorem exec_frameEnc_of_lengthRejected {n : Nat}
    (he : enc s.params s.port.arg0 xtd rtr data = .lengthRejected n) :
    exec (.frameEnc xtd rtr) s = .next (s.setStatus .lengthRejected) := by
  simp only [exec, execFrameEnc, s.arg0?_written hw, payload?_of_hasPayload hp, he]

theorem exec_frameEnc_of_header {h : TxHeader} (he : enc s.params s.port.arg0 xtd rtr data = .header h) :
    exec (.frameEnc xtd rtr) s
      = .next ((s.setRes0 (h.t0 s.params.layout)).setRes1 (h.t1 s.params.layout)).done := by
  simp only [exec, execFrameEnc, s.arg0?_written hw, payload?_of_hasPayload hp, he]

end

theorem encode_frameEnc (xtd rtr : Bool) :
    encode (.frameEnc xtd rtr) = 0x00000003 ||| (bit rtr <<< 10) ||| (bit xtd <<< 9) := by
  cases xtd <;> cases rtr <;> rfl

theorem withStatus_lengthRejected_eq (s : State) : withStatus s 0x04 = s.setStatus .lengthRejected := rfl

/-- Answers in `RES0` and `RES1` with `STATUS = Ok` are the claims' next state of them. -/
theorem withRes01_ok_eq_done (s : State) (v w : Word) :
    withRes01 s 0x00 v w = ((s.setRes0 v).setRes1 w).done := rfl

/-- Settles O14: with both operands written, FRAME_ENC answers what `enc` says of them, and `enc` has one case for each
clause. -/
theorem frameEncOutcomes : Obligations.FrameEncOutcomes := by
  refine fun xtd rtr => ⟨encode_frameEnc xtd rtr, fun s => ⟨fun h => ?refused, fun hw data hp => ⟨fun hn => ?undefined,
    fun hmem h8 hr => ?rejected, fun c hrow h => ?encoded⟩⟩⟩
  case refused => rw [exec_frameEnc_of_unwritten h, refusedWith_eq_refuse]
  case undefined =>
    rw [exec_frameEnc_of_undefinedLength hw hp (enc_of_not_mem_lenSet hn), undefinedWith_eq_raiseUndefined]
  case rejected =>
    rw [exec_frameEnc_of_lengthRejected hw hp (enc_of_rejected hmem h8 hr), withStatus_lengthRejected_eq]
  case encoded =>
    rw [exec_frameEnc_of_header hw hp (enc_of_mem_dlcRows hrow h), encodedHeader_t0, encodedHeader_t1,
      withRes01_ok_eq_done]

end Sys2Proof.Machine
end

section
/-! WRITE and TX_FREE (41_frame_encoder.md R150 to R155), and the commands refused on a controller that is
not running. -/

namespace Sys2Proof.Machine

open Sys2Proof.Claims

variable {s : State} {i : InstId} {xtd rtr : Bool} {data : List Byte}

/-! ### Submitting an element (R150 to R152) -/

theorem submit_of_full (e : TxElement) (h : (s.inst i).txq.length = 32) :
    s.submit i e = withRes0 s 0x02 s.params.errTxFull := if_pos h

theorem submit_of_failing (e : TxElement) (h : (s.inst i).txq.length ≠ 32) (hf : s.submitFails = true) :
    s.submit i e = withRes0 s 0x03 (s.drawWord 0) := (if_neg h).trans (if_pos hf)

theorem submit_of_room (e : TxElement) (h : (s.inst i).txq.length ≠ 32) (hf : s.submitFails = false) :
    s.submit i e = withRes0 (s.setInst i { s.inst i with txq := (s.inst i).txq ++ [e] }) 0x00 0 := by
  simp only [State.submit, fill, if_neg h, hf]
  rfl

/-- A submission fails only where `TX_SUBMIT_MAY_FAIL` allows it (R152). -/
theorem submitFails_eq_false (h : s.params.txSubmitMayFail = false) : s.submitFails = false := by
  simp [State.submitFails, h]

/-! ### The outcomes of WRITE -/

theorem exec_write_of_unwritten (h : s.port.written.arg0 = false ∨ LacksPayload s) :
    exec (.write i xtd rtr) s = .next (s.refuse .unwrittenOperand) := by
  obtain h | h := h
  · simp only [exec, execWrite, s.arg0?_unwritten h]
  · simp only [exec, execWrite, s.payload?_unwritten h]
    cases s.arg0? <;> rfl

section
variable (hw : s.port.written.arg0 = true) (hp : HasPayload s data)
include hw hp

theorem exec_write_of_not_running (hr : (s.inst i).life ≠ .running) :
    exec (.write i xtd rtr) s = .next (s.refuse .notRunning) := by
  simp only [exec, execWrite, s.arg0?_written hw, payload?_of_hasPayload hp, (s.not_running_iff i).mpr hr]
  rfl

variable (hr : (s.inst i).life = .running)
include hr

theorem exec_write_of_undefinedLength {n : Nat} (he : enc s.params s.port.arg0 xtd rtr data = .undefinedLength n) :
    exec (.write i xtd rtr) s = .next (s.raiseUndefined n) := by
  simp only [exec, execWrite, s.arg0?_written hw, payload?_of_hasPayload hp, (s.running_iff i).mpr hr, if_true, he]

theorem exec_write_of_lengthRejected {n : Nat} (he : enc s.params s.port.arg0 xtd rtr data = .lengthRejected n) :
    exec (.write i xtd rtr) s = .next (s.setStatus .lengthRejected) := by
  simp only [exec, execWrite, s.arg0?_written hw, payload?_of_hasPayload hp, (s.running_iff i).mpr hr, if_true, he]

/-- A payload of legal length is submitted, with the header words of 30_encoding.md R81 and R82. -/
theorem exec_write_of_mem_dlcRows {c : BitVec 4} (hrow : (data.length, c) ∈ dlcRows)
    (h : data.length ≤ 8 ∨ s.params.classicOverlength = .truncate) :
    exec (.write i xtd rtr) s
      = .next (s.submit i { t0 := headerT0 s.port.arg0 xtd rtr, t1 := headerT1 c, data := data }) := by
  simp only [exec, execWrite, s.arg0?_written hw, payload?_of_hasPayload hp, (s.running_iff i).mpr hr, if_true,
    enc_of_mem_dlcRows hrow h, encodedHeader_t0, encodedHeader_t1]

end

theorem encode_write (i : InstId) (xtd rtr : Bool) : encode (.write i xtd rtr)
    = 0x00000005 ||| (bit rtr <<< 10) ||| (bit xtd <<< 9) ||| (bit (decide (i = .i1)) <<< 8) := by
  cases i <;> cases xtd <;> cases rtr <;> rfl

/-- Settles O15: with both operands written on a running controller, WRITE answers what `enc` says of them, and what it
submits meets a full queue, a failing submission or room at the tail. -/
theorem writeOutcomes : Obligations.WriteOutcomes := by
  refine fun i xtd rtr => ⟨encode_write i xtd rtr, fun s => ⟨fun h => ?refused, fun hw data hp => ⟨fun hr => ?stopped,
    fun hr => ⟨fun hn => ?undefined, fun hmem h8 hrej => ?rejected, fun c hrow h => ?submitted⟩⟩⟩⟩
  case refused => rw [exec_write_of_unwritten h, refusedWith_eq_refuse]
  case stopped => rw [exec_write_of_not_running hw hp hr, refusedWith_eq_refuse]
  case undefined =>
    rw [exec_write_of_undefinedLength hw hp hr (enc_of_not_mem_lenSet hn), undefinedWith_eq_raiseUndefined]
  case rejected =>
    rw [exec_write_of_lengthRejected hw hp hr (enc_of_rejected hmem h8 hrej), withStatus_lengthRejected_eq]
  case submitted =>
    rw [exec_write_of_mem_dlcRows hw hp hr hrow h]
    refine ⟨fun hfull => ?_, fun hroom hmay => ?_, fun hroom _ => ?_⟩
    · rw [submit_of_full _ hfull]
    · rw [submit_of_room _ hroom (submitFails_eq_false hmay), queuedWrite]
    · cases hf : s.submitFails with
      | false => exact .inl (by rw [submit_of_room _ hroom hf, queuedWrite])
      | true => exact .inr ⟨_, by rw [submit_of_failing _ hroom hf]⟩

/-! ### TX_FREE (R155) -/

theorem exec_txFree_of_running (hr : (s.inst i).life = .running) :
    exec (.txFree i) s = .next (s.setRes0 (BitVec.ofNat 32 (32 - (s.inst i).txq.length))).done :=
  if_pos ((s.running_iff i).mpr hr)

theorem exec_txFree_of_not_running (hr : (s.inst i).life ≠ .running) :
    exec (.txFree i) s = .next (s.refuse .notRunning) :=
  if_neg (mt (s.running_iff i).mp hr)

theorem encode_txFree (i : InstId) : encode (.txFree i) = 0x00000009 ||| (bit (decide (i = .i1)) <<< 8) := by
  cases i <;> rfl

/-- Settles O16: TX_FREE asks only whether its controller is running, and answers the room left in the queue. -/
theorem txFreeOutcomes : Obligations.TxFreeOutcomes := by
  refine fun i => ⟨encode_txFree i, fun s => ⟨fun hr => ?_, fun hr => ?_⟩⟩
  · rw [exec_txFree_of_running hr, withRes0_ok_eq_done]
  · rw [exec_txFree_of_not_running hr, refusedWith_eq_refuse]

/-! ### A controller that is not running (R153) -/

/-- A command that needs a running controller reads its operands and then asks for one: otherwise it is refused, for an
unwritten operand or because the controller is not running. -/
theorem exec_of_not_running {c : Instr} (hn : NeedsRunning c) (ht : target c = some i)
    (hr : (s.inst i).life ≠ .running) : ∃ why, exec c s = .next (s.refuse why) := by
  have hf : ¬ s.running i = true := mt (s.running_iff i).mp hr
  cases c with
  | dlcEnc | dlcDec | frameEnc | frameDec | init | deinit => exact hn.elim
  | read | txFree | rxErr | txErr =>
    cases ht
    exact ⟨_, if_neg hf⟩
  | write =>
    cases ht
    simp only [exec, execWrite, if_neg hf]
    split <;> exact ⟨_, rfl⟩
  | filterProg =>
    cases ht
    simp only [exec, execFilterProg, if_neg hf]
    split <;> exact ⟨_, rfl⟩
  | accept =>
    cases ht
    simp only [exec, execAccept, if_neg hf]
    split <;> exact ⟨_, rfl⟩
  | setBitTiming =>
    cases ht
    simp only [exec, execSetBitTiming, if_neg hf]
    split <;> exact ⟨_, rfl⟩

/-- Settles O43: an uninitialized controller is not running. -/
theorem uninitializedInstanceRefusesCommands : Obligations.UninitializedInstanceRefusesCommands := by
  intro c i s hn ht hl
  simp only [refusedWith_eq_refuse]
  exact exec_of_not_running hn ht (by simp [hl])

end Sys2Proof.Machine
end

section
/-! The decoder (42_frame_decoder.md R171 to R175): what `dec` answers, by the row of the DLC table its entry's length
code stands in, and the round trip of what the encoder makes (R184, R185). -/

namespace Sys2Proof.Machine

open Sys2Proof.Claims

/-! ### The fields `dec` reads -/

theorem wordDlc_eq_extractLsb' (L : Layout) (w : Word) : wordDlc L w = w.extractLsb' 16 4 := by cases L; rfl

theorem wordRtr_eq_getLsbD (L : Layout) (w : Word) : wordRtr L w = w.getLsbD 29 := by cases L; rfl

theorem wordIdent_of_ext {w : Word} (L : Layout) (h : w.getLsbD 30 = true) : wordIdent L w = .ext (field w 0 29) := by
  cases L
  exact if_pos h

theorem wordIdent_of_std {w : Word} (L : Layout) (h : w.getLsbD 30 = false) : wordIdent L w = .std (field w 18 11) := by
  cases L
  exact if_neg (Bool.eq_false_iff.mp h)

/-- The eleven bits of a standard identifier are the low bits of the word shifted down to them. -/
theorem setWidth_field_std_shifted (w : Word) : (field w 18 11).setWidth 32 = (w >>> 18) &&& 0x7FF := by
  have : field w 18 11 = field (w >>> 18) 0 11 := by
    apply BitVec.eq_of_getLsbD_eq
    intro k hk
    simp
  rw [this, setWidth_field_std]

theorem decodedId_of_ext {r0 : Word} (h : r0.getLsbD 30 = true) : decodedId r0 = r0 &&& 0x1FFFFFFF := if_pos h

theorem decodedId_of_std {r0 : Word} (h : r0.getLsbD 30 = false) : decodedId r0 = (r0 >>> 18) &&& 0x7FF :=
  if_neg (Bool.eq_false_iff.mp h)

/-- The identifier by the formula of R171. -/
theorem identWord_wordIdent (L : Layout) (r0 : Word) : identWord (wordIdent L r0) = decodedId r0 := by
  cases h : r0.getLsbD 30 with
  | true => rw [wordIdent_of_ext L h, decodedId_of_ext h, identWord, placed_zero, setWidth_field_ext]
  | false => rw [wordIdent_of_std L h, decodedId_of_std h, identWord, placed_zero, setWidth_field_std_shifted]

theorem identXtd_wordIdent (L : Layout) (r0 : Word) : identXtd (wordIdent L r0) = r0.getLsbD 30 := by
  cases h : r0.getLsbD 30 with
  | true => rw [wordIdent_of_ext L h, identXtd]
  | false => rw [wordIdent_of_std L h, identXtd]

/-! ### What `dec` answers -/

/-- The frame of an entry with first header word `r0`, by the formulas of R171, R172 and R174. -/
def decodedFrame (r0 : Word) (payload : List Byte) : Frame :=
  { id := decodedId r0, isExtended := r0.getLsbD 30, isRemote := r0.getLsbD 29, payload := payload }

section
variable {p : Params} {r0 r1 : Word} {data : List Byte} {n : Nat}

/-- A count in the row of a length code is what the model's table gives for that code. -/
theorem dlcToBytes_wordDlc (L : Layout) (hrow : (n, r1.extractLsb' 16 4) ∈ dlcRows) :
    dlcToBytes (wordDlc L r1) = n := by
  rw [wordDlc_eq_extractLsb']
  exact dlcToBytes_of_mem_dlcRows _ hrow

theorem dec_overlength_of_mem_dlcRows (hrow : (n, r1.extractLsb' 16 4) ∈ dlcRows) (h8 : 8 < n)
    (hf : p.rxOverlength = .fault) : dec p r0 r1 data = .overlength n := by
  have hn := dlcToBytes_wordDlc p.layout hrow
  rw [dec_overlength (hn.symm ▸ h8) hf, hn]

theorem dec_frame_of_mem_dlcRows (hrow : (n, r1.extractLsb' 16 4) ∈ dlcRows)
    (h : n ≤ 8 ∨ p.rxOverlength = .truncate) :
    dec p r0 r1 data = .frame (decodedFrame r0 (data.take (min n 8))) := by
  have hn := dlcToBytes_wordDlc p.layout hrow
  rw [dec_frame (hn.symm ▸ h), identWord_wordIdent, identXtd_wordIdent, wordRtr_eq_getLsbD, deliveredBytes, hn,
    decodedFrame]

/-- `dec` reads nothing of the header words but identifier, remote tag and length code (R175). -/
theorem dec_congr {r0' r1' : Word} (hident : wordIdent p.layout r0 = wordIdent p.layout r0')
    (hrtr : wordRtr p.layout r0 = wordRtr p.layout r0') (hdlc : wordDlc p.layout r1 = wordDlc p.layout r1') :
    dec p r0 r1 data = dec p r0' r1' data := by
  simp only [dec, hident, hrtr, hdlc]

end

/-! ### The range of a decoded identifier (R172) -/

/-- A masked word is at most its mask. -/
theorem toNat_and_le (v m : Word) : (v &&& m).toNat ≤ m.toNat := by
  rw [BitVec.toNat_and]
  exact Nat.and_le_right

/-- Settles O17: `dec` answers `Overlength` or the decoded frame, by the row of its length code; the frame's identifier
is masked to its type's range. -/
theorem decodedFrameFields : Obligations.DecodedFrameFields := by
  refine fun p r0 r1 data n hrow => ⟨dec_overlength_of_mem_dlcRows hrow, fun h => ⟨_, dec_frame_of_mem_dlcRows hrow h,
    rfl, rfl, fun hx => ?ext, fun hx => ?std, rfl⟩⟩
  case ext =>
    have hid := decodedId_of_ext hx
    exact ⟨hid, (congrArg BitVec.toNat hid).trans_le (toNat_and_le _ _)⟩
  case std =>
    have hid := decodedId_of_std hx
    exact ⟨hid, (congrArg BitVec.toNat hid).trans_le (toNat_and_le _ _)⟩

/-- The identifier of a word is read from its type tag and the bits of that type. -/
theorem wordIdent_congr {r0 r0' : Word} (L : Layout) (hxtd : r0.getLsbD 30 = r0'.getLsbD 30)
    (hext : r0.getLsbD 30 = true → r0.extractLsb' 0 29 = r0'.extractLsb' 0 29)
    (hstd : r0.getLsbD 30 = false → r0.extractLsb' 18 11 = r0'.extractLsb' 18 11) :
    wordIdent L r0 = wordIdent L r0' := by
  cases h : r0.getLsbD 30 with
  | true => rw [wordIdent_of_ext L h, wordIdent_of_ext L (hxtd ▸ h), field, field, hext h]
  | false => rw [wordIdent_of_std L h, wordIdent_of_std L (hxtd ▸ h), field, field, hstd h]

/-- Settles O18: the three fields `dec` reads are equal in the two entries. -/
theorem decoderIgnoresOtherFields : Obligations.DecoderIgnoresOtherFields := by
  intro p r0 r0' r1 r1' data hxtd hrtr hext hstd hdlc
  refine dec_congr (wordIdent_congr p.layout hxtd hext hstd) ?_ ?_
  · simpa only [wordRtr_eq_getLsbD] using hrtr
  · simpa only [wordDlc_eq_extractLsb'] using hdlc

/-! ### The looped entry (R184) -/

/-- The identifier of a first header word is the one it was made of. -/
theorem wordIdent_idWord (L : Layout) (a : Ident) (rtr esi : Bool) : wordIdent L (idWord L a rtr esi) = a := by
  cases a with
  | std v => rw [wordIdent_of_std L (getLsbD_idWord_xtd L (.std v) rtr esi), field_idWord_std]
  | ext v => rw [wordIdent_of_ext L (getLsbD_idWord_xtd L (.ext v) rtr esi), field_idWord_ext]

/-- The low bits of a word are the word when it fits in them. -/
theorem setWidth_field_of_lt {v : Word} {len : Nat} (h : v.toNat < 2 ^ len) : (field v 0 len).setWidth 32 = v := by
  apply BitVec.eq_of_toNat_eq
  simp [field, Nat.mod_eq_of_lt h, Nat.mod_eq_of_lt v.isLt]

/-- An identifier within its type's range survives the masking (41_frame_encoder.md R142). -/
theorem identWord_identOf_of_inRange {id : Word} {xtd : Bool} (hstd : xtd = false → id.toNat ≤ 0x7FF)
    (hext : xtd = true → id.toNat ≤ 0x1FFFFFFF) : identWord (identOf xtd id) = id := by
  cases xtd with
  | false => exact (placed_zero _).trans (setWidth_field_of_lt (Nat.lt_succ_of_le (hstd rfl)))
  | true => exact (placed_zero _).trans (setWidth_field_of_lt (Nat.lt_succ_of_le (hext rfl)))

/-- `R1` of the looped entry carries the header's length code. -/
theorem wordDlc_loopedR1 (L : Layout) (h : TxHeader) :
    (((h.t1 L).extractLsb' 16 4).setWidth 32 <<< 16 : Word).extractLsb' 16 4 = h.dlc := by
  rw [← wordDlc_eq_extractLsb' L (h.t1 L), wordDlc_t1]
  apply BitVec.eq_of_getLsbD_eq
  intro k hk
  have hw : 16 + k < 32 := by omega
  simp [hk, hw]

section
variable {p : Params} {id : Word} {xtd rtr : Bool} {payload pad : List Byte} {c : BitVec 4}

/-- The looped entry stands in its payload's row of the table. -/
theorem loopedR1_mem_dlcRows (L : Layout) (hrow : (payload.length, c) ∈ dlcRows) :
    (payload.length,
      ((((encodedHeader id xtd rtr c).t1 L).extractLsb' 16 4).setWidth 32 <<< 16 : Word).extractLsb' 16 4)
        ∈ dlcRows := by
  rwa [wordDlc_loopedR1]

/-- The looped entry decodes to the frame that was encoded, its identifier masked and its payload cut to 8 bytes. -/
theorem dec_looped (hrow : (payload.length, c) ∈ dlcRows) (h : payload.length ≤ 8 ∨ p.rxOverlength = .truncate) :
    dec p ((encodedHeader id xtd rtr c).t0 p.layout)
        ((((encodedHeader id xtd rtr c).t1 p.layout).extractLsb' 16 4).setWidth 32 <<< 16) (payload ++ pad)
      = .frame
          { id := identWord (identOf xtd id), isExtended := xtd, isRemote := rtr, payload := payload.take 8 } := by
  have hident : wordIdent p.layout ((encodedHeader id xtd rtr c).t0 p.layout) = identOf xtd id :=
    wordIdent_idWord p.layout _ _ _
  have hrtr : wordRtr p.layout ((encodedHeader id xtd rtr c).t0 p.layout) = rtr := wordRtr_idWord p.layout _ _ _
  have hdata : (payload ++ pad).take (min payload.length 8) = payload.take 8 := by
    rw [List.take_append_of_le_length (Nat.min_le_left _ _), Nat.min_comm, ← List.take_eq_take_min]
  rw [dec_frame_of_mem_dlcRows (loopedR1_mem_dlcRows p.layout hrow) h, hdata, decodedFrame,
    ← identWord_wordIdent p.layout, ← identXtd_wordIdent p.layout, ← wordRtr_eq_getLsbD p.layout, hident, hrtr,
    identXtd_identOf]

end

/-- Each classic length has a code. -/
theorem exists_code_of_le_eight {n : Nat} (h : n ≤ 8) : ∃ c, (n, c) ∈ dlcRows :=
  mem_lenSet_iff.mp ((by decide : ∀ k < 9, k ∈ lenSet) n (Nat.lt_succ_of_le h))

/-- Settles O19: a payload of classic length has a code, and the looped entry decodes to the frame of it, with nothing
masked off the identifier and nothing cut off the payload. -/
theorem decodeOfEncodedFrameIsTheFrame : Obligations.DecodeOfEncodedFrameIsTheFrame := by
  intro p id xtd rtr payload pad hstd hext h8 _
  obtain ⟨c, hrow⟩ := exists_code_of_le_eight h8
  refine ⟨_, enc_of_mem_dlcRows hrow (.inl h8), ?_⟩
  rw [dec_looped hrow (.inl h8), identWord_identOf_of_inRange hstd hext, List.take_of_length_le h8]

theorem nine_le_code_of_mem_dlcRows : ∀ row ∈ dlcRows, 8 < row.1 → 9 ≤ row.2.toNat := by decide

/-- Settles O20: the code of a longer payload is at least 9, so the looped entry is over length; what is left of its
payload under Truncate is shorter than the payload. -/
theorem longPayloadsAreCutOrRefused : Obligations.LongPayloadsAreCutOrRefused := by
  intro p id xtd rtr payload pad h h8 he
  obtain ⟨c, hc, -, rfl⟩ := enc_header he
  have hrow := bytesToDlc_eq_some_iff.mp hc
  refine ⟨?code, fun hf => ?fault, fun ht => ⟨_, dec_looped hrow (.inr ht), rfl, fun hcut => ?cut⟩⟩
  case code =>
    rw [← wordDlc_eq_extractLsb' p.layout, wordDlc_t1]
    exact nine_le_code_of_mem_dlcRows _ hrow h8
  case fault => exact dec_overlength_of_mem_dlcRows (loopedR1_mem_dlcRows p.layout hrow) h8 hf
  case cut =>
    have := congrArg List.length hcut
    rw [List.length_take] at this
    omega

end Sys2Proof.Machine
end

section
/-! READ (42_frame_decoder.md R180 to R183). -/

namespace Sys2Proof.Machine

open Sys2Proof.Claims

variable {s : State} {i : InstId} {e : RxEntry} {rest : List RxEntry}

/-! ### Delivering a decode result -/

theorem frameFlagsWord_decodedFrame (r0 : Word) (payload : List Byte) :
    frameFlagsWord (decodedFrame r0 payload) = decodedFlags r0 := by
  simp only [frameFlagsWord, decodedFrame, decodedFlags, flagBit_eq_bit_shiftLeft, BitVec.shiftLeft_zero]

/-- The delivered bytes of `RXBUF` are the payload's, the others keep their values. -/
theorem overwrite_eq_ofFn {n : Nat} (buf : Vector Byte n) (payload : List Byte) : overwrite buf payload
    = Vector.ofFn fun j => if h : j.val < payload.length then payload[j.val] else buf[j] := by
  ext j hj
  rw [overwrite_getElem, Vector.getElem_ofFn]
  split
  next h => rw [List.getElem?_eq_getElem h, Option.getD_some]
  next h => rw [List.getElem?_eq_none (Nat.le_of_not_lt h), Option.getD_none, Fin.getElem_fin]

theorem deliver_decodedFrame (s : State) (r0 : Word) (payload : List Byte) :
    s.deliver (.frame (decodedFrame r0 payload)) = delivered s r0 payload := by
  simp only [State.deliver, Port.deliver, frameFlagsWord_decodedFrame, overwrite_eq_ofFn]
  rfl

theorem deliver_overlength (s : State) (n : Nat) : s.deliver (.overlength n) = withStatus s 0x05 := rfl

/-- Removing the head of the FIFO and delivering what `dec` makes of it is what a READ that does not fail does. -/
theorem readsHead_deliver_dec : ReadsHead s i e rest
    ((s.setInst i { s.inst i with rxf0 := rest }).deliver (dec s.params e.r0 e.r1 e.data)) := by
  refine fun n hrow => ⟨fun ⟨h8, hf⟩ => ?_, fun h => ?_⟩
  · rw [dec_overlength_of_mem_dlcRows hrow h8 hf, deliver_overlength]
  · rw [dec_frame_of_mem_dlcRows hrow h, deliver_decodedFrame]

/-! ### The outcomes -/

theorem popRx_of_cons {r : InstState} (h : r.rxf0 = e :: rest) : r.popRx = { r with rxf0 := rest } := by
  rw [InstState.popRx, h, List.tail_cons]

theorem exec_read_of_not_running (hr : (s.inst i).life ≠ .running) :
    exec (.read i) s = .next (s.refuse .notRunning) := if_neg (mt (s.running_iff i).mp hr)

section
variable (hr : (s.inst i).life = .running)
include hr

theorem exec_read_of_empty (hq : (s.inst i).rxf0 = []) : exec (.read i) s = .next (s.setStatus .noFrame) := by
  simp only [exec, execRead, (s.running_iff i).mpr hr, if_true, hq]

variable (hq : (s.inst i).rxf0 = e :: rest)
include hq

theorem exec_read_of_failing (hf : s.readFails = true) : exec (.read i) s = .next (s.failRead i) := by
  simp only [exec, execRead, (s.running_iff i).mpr hr, if_true, hq, hf]

theorem exec_read_of_head (hf : s.readFails = false) : exec (.read i) s
    = .next ((s.setInst i { s.inst i with rxf0 := rest }).deliver (dec s.params e.r0 e.r1 e.data)) := by
  simp only [exec, execRead, (s.running_iff i).mpr hr, if_true, hq, hf, popRx_of_cons hq]
  rfl

end

/-- A failed read keeps the FIFO or drops its head, and answers a code (R182). -/
theorem failRead_cases (hq : (s.inst i).rxf0 = e :: rest) :
    s.failRead i = withRes0 s 0x03 (s.drawWord 0)
      ∨ s.failRead i = withRes0 (s.setInst i { s.inst i with rxf0 := rest }) 0x03 (s.drawWord 0) := by
  unfold State.failRead
  cases s.drawBool 1 with
  | false => exact .inl rfl
  | true => exact .inr (by rw [popRx_of_cons hq]; rfl)

/-- A read fails only where `RX_READ_MAY_FAIL` allows it (R182). -/
theorem readFails_eq_false (h : s.params.rxReadMayFail = false) : s.readFails = false := by
  simp [State.readFails, h]

theorem encode_read (i : InstId) : encode (.read i) = 0x00000006 ||| (bit (decide (i = .i1)) <<< 8) := by
  cases i <;> rfl

/-- Settles O22: READ asks for a running controller, then for an entry; a read of one fails, keeping or dropping it, or
delivers what `dec` makes of it. -/
theorem readOutcomes : Obligations.ReadOutcomes := by
  refine fun i => ⟨encode_read i, fun s => ⟨fun hr => exec_read_of_not_running hr, fun hr => ⟨fun hq =>
    exec_read_of_empty hr hq, fun e rest hq => ⟨fun hmay => ?never, fun _ => ?may⟩⟩⟩⟩
  case never => exact ⟨_, exec_read_of_head hr hq (readFails_eq_false hmay), readsHead_deliver_dec⟩
  case may =>
    cases hf : s.readFails with
    | false => exact .inl ⟨_, exec_read_of_head hr hq hf, readsHead_deliver_dec⟩
    | true =>
      rw [exec_read_of_failing hr hq hf]
      obtain hkept | hlost := failRead_cases hq
      · exact .inr (.inl ⟨_, congrArg _ hkept⟩)
      · exact .inr (.inr ⟨_, congrArg _ hlost⟩)

end Sys2Proof.Machine
end

section
/-! The acceptance function (43_filter_table.md R208, R209, R211): the lowest matching slot, in the claims' terms, and
what the verdict is by the remote policy, the match and the non-matching policy. -/

namespace Sys2Proof.Machine

open Sys2Proof.Claims

/-! ### Slot match -/

theorem stdAccepts_iff {v : BitVec 11} {f : StdFilter} : stdAccepts v f = true ↔ StdHit f v := by
  cases f <;> simp [stdAccepts, StdHit]

theorem extAccepts_iff {v : BitVec 29} {f : ExtFilter} : extAccepts v f = true ↔ ExtHit f v := by
  cases f <;> simp [extAccepts, ExtHit]

/-- A slot with mask 0 matches every identifier of its type (43_filter_table.md R205). -/
theorem stdHit_mask_zero (v : BitVec 11) : StdHit (.mask 0 0) v := ⟨0, 0, rfl, by simp⟩

theorem extHit_mask_zero (v : BitVec 29) : ExtHit (.mask 0 0) v := ⟨0, 0, rfl, by simp⟩

/-- Slot `k` of the identifier's table exists and matches it; an extended identifier is masked with `XIDAM` first
(43_filter_table.md R208). -/
def InstState.SlotHit (r : InstState) (a : Ident) (k : Nat) : Prop :=
  match a with
  | .std v => ∃ h : k < 128, StdHit r.sft[k] v
  | .ext v => ∃ h : k < 64, ExtHit r.xft[k] (v &&& r.xidam)

/-! ### The lowest matching slot -/

theorem findIdx?_toList_eq_some_iff {α : Type} {n k : Nat} (v : Vector α n) (p : α → Bool) :
    v.toList.findIdx? p = some k
      ↔ (∃ h : k < n, p v[k] = true) ∧ ∀ j < k, ¬ ∃ h : j < n, p v[j] = true := by
  simp only [List.findIdx?_eq_some_iff_getElem, Vector.getElem_toList, Vector.length_toList]
  constructor
  · rintro ⟨hk, hp, hlow⟩
    exact ⟨⟨hk, hp⟩, fun j hj ⟨_, hpj⟩ => hlow j hj hpj⟩
  · rintro ⟨⟨hk, hp⟩, hlow⟩
    exact ⟨hk, hp, fun j hj hpj => hlow j hj ⟨hj.trans hk, hpj⟩⟩

theorem findIdx?_toList_eq_none_iff {α : Type} {n : Nat} (v : Vector α n) (p : α → Bool) :
    v.toList.findIdx? p = none ↔ ∀ k, ¬ ∃ h : k < n, p v[k] = true := by
  simp only [List.findIdx?_eq_none_iff, Vector.mem_toList_iff, Vector.mem_iff_getElem, Bool.not_eq_true, not_exists]
  exact ⟨fun h k hk => h _ ⟨k, hk, rfl⟩, fun h _ ⟨k, hk, hx⟩ => hx ▸ h k hk⟩

variable {r : InstState} {a : Ident} {rtr : Bool} {k : Nat}

theorem InstState.firstMatch_eq_some_iff :
    r.firstMatch a = some k ↔ r.SlotHit a k ∧ ∀ j < k, ¬ r.SlotHit a j := by
  cases a with
  | std v => simp only [InstState.firstMatch, findIdx?_toList_eq_some_iff, stdAccepts_iff, InstState.SlotHit]
  | ext v => simp only [InstState.firstMatch, findIdx?_toList_eq_some_iff, extAccepts_iff, InstState.SlotHit]

theorem InstState.firstMatch_eq_none_iff : r.firstMatch a = none ↔ ∀ k, ¬ r.SlotHit a k := by
  cases a with
  | std v => simp only [InstState.firstMatch, findIdx?_toList_eq_none_iff, stdAccepts_iff, InstState.SlotHit]
  | ext v => simp only [InstState.firstMatch, findIdx?_toList_eq_none_iff, extAccepts_iff, InstState.SlotHit]

/-! ### The verdict -/

/-- A rejected remote frame does not reach the filters (43_filter_table.md R213). -/
theorem judge_of_remote_rejected (h : rejectsRemote r.gfp (identXtd a) = true) : r.judge a true = .reject := if_pos h

section
variable (hadmit : rtr = false ∨ rejectsRemote r.gfp (identXtd a) = false)
include hadmit

theorem judge_of_lowest_hit (hit : r.SlotHit a k) (hlow : ∀ j < k, ¬ r.SlotHit a j) : r.judge a rtr = .fifo0 k := by
  have hmatch := InstState.firstMatch_eq_some_iff.mpr ⟨hit, hlow⟩
  simp [InstState.judge, Bool.and_eq_false_iff.mpr hadmit, hmatch]

/-- Without a match the non-matching policy of the identifier's type answers. -/
theorem answer_judge_of_no_hit (s : State) (hno : ∀ k, ¬ r.SlotHit a k) :
    s.answer (r.judge a rtr) = noMatchResult s (nonMatchPolicy r.gfp (identXtd a)) := by
  have hmatch := InstState.firstMatch_eq_none_iff.mpr hno
  simp only [InstState.judge, Bool.and_eq_false_iff.mpr hadmit, Bool.false_eq_true, if_false, hmatch]
  cases nonMatchPolicy r.gfp (identXtd a) <;> rfl

end

theorem answer_fifo0 (s : State) (k : Nat) : s.answer (.fifo0 k) = withRes01 s 0x00 1 (BitVec.ofNat 32 k) := rfl

theorem answer_reject (s : State) : s.answer .reject = withRes01 s 0x00 0 0xFFFFFFFF := rfl

end Sys2Proof.Machine
end

section
/-! FILTER_PROG and ACCEPT (43_filter_table.md R201, R203, R210). -/

namespace Sys2Proof.Machine

open Sys2Proof.Claims

variable {s : State} {i : InstId} {xtd rtr : Bool}

/-! ### Masking an operand to its type's width (R203) -/

theorem field_zero_eq_setWidth {len : Nat} (w : Word) (h : len ≤ 32) : field w 0 len = w.setWidth len :=
  (BitVec.setWidth_eq_extractLsb' h).symm

/-- Masking with `STD_ID_MASK` loses no bit of a standard identifier. -/
theorem setWidth_and_stdMask (w : Word) : (w &&& 0x7FF).setWidth 11 = w.setWidth 11 :=
  BitVec.setWidth_and.trans BitVec.and_allOnes

/-- Masking with `EXT_ID_MASK` loses no bit of an extended identifier. -/
theorem setWidth_and_extMask (w : Word) : (w &&& 0x1FFFFFFF).setWidth 29 = w.setWidth 29 :=
  BitVec.setWidth_and.trans BitVec.and_allOnes

theorem identOf_false (id : Word) : identOf false id = .std (id.setWidth 11) :=
  congrArg Ident.std (field_zero_eq_setWidth id (by decide))

theorem identOf_true (id : Word) : identOf true id = .ext (id.setWidth 29) :=
  congrArg Ident.ext (field_zero_eq_setWidth id (by decide))

/-! ### Programming a slot -/

theorem setIfInBounds_eq_set {α : Type} {n k : Nat} (v : Vector α n) (x : α) (h : k < n) :
    v.setIfInBounds k x = v.set k x := by
  ext j hj
  simp only [Vector.getElem_setIfInBounds, Vector.getElem_set]

theorem programStd_of_lt {k : Nat} (r : InstState) (id fmask : Word) (h : k < 128) : r.programStd k id fmask
    = { r with sft := r.sft.set k (.mask ((id &&& 0x7FF).setWidth 11) ((fmask &&& 0x7FF).setWidth 11)) } := by
  have h11 : 11 ≤ 32 := by decide
  rw [InstState.programStd, setIfInBounds_eq_set _ _ h, setWidth_and_stdMask, setWidth_and_stdMask,
    field_zero_eq_setWidth _ h11, field_zero_eq_setWidth _ h11]

theorem programExt_of_lt {k : Nat} (r : InstState) (id fmask : Word) (h : k < 64) : r.programExt k id fmask
    = { r with xft := r.xft.set k (.mask ((id &&& 0x1FFFFFFF).setWidth 29) ((fmask &&& 0x1FFFFFFF).setWidth 29)) } := by
  have h29 : 29 ≤ 32 := by decide
  rw [InstState.programExt, setIfInBounds_eq_set _ _ h, setWidth_and_extMask, setWidth_and_extMask,
    field_zero_eq_setWidth _ h29, field_zero_eq_setWidth _ h29]

/-! ### The outcomes of FILTER_PROG -/

theorem exec_filterProg_of_unwritten
    (h : s.port.written.arg0 = false ∨ s.port.written.arg1 = false ∨ s.port.written.arg2 = false) :
    exec (.filterProg i xtd) s = .next (s.refuse .unwrittenOperand) := by
  obtain h | h | h := h
  · simp only [exec, execFilterProg, s.arg0?_unwritten h]
  · simp only [exec, execFilterProg, s.arg1?_unwritten h]
    cases s.arg0? <;> rfl
  · simp only [exec, execFilterProg, s.arg2?_unwritten h]
    cases s.arg0? <;> cases s.arg1? <;> rfl

section
variable (h0 : s.port.written.arg0 = true) (h1 : s.port.written.arg1 = true) (h2 : s.port.written.arg2 = true)
include h0 h1 h2

theorem exec_filterProg_of_not_running (hr : (s.inst i).life ≠ .running) :
    exec (.filterProg i xtd) s = .next (s.refuse .notRunning) := by
  simp only [exec, execFilterProg, s.arg0?_written h0, s.arg1?_written h1, s.arg2?_written h2,
    if_neg (mt (s.running_iff i).mp hr)]

variable (hr : (s.inst i).life = .running)
include hr

theorem exec_filterProg_of_index_ge (hk : slotCount xtd ≤ s.port.arg0.toNat) :
    exec (.filterProg i xtd) s = .next (s.raiseFatal i .configurationFault codeFilterIndex) := by
  simp only [exec, execFilterProg, s.arg0?_written h0, s.arg1?_written h1, s.arg2?_written h2,
    (s.running_iff i).mpr hr, if_true, if_pos hk]

theorem exec_filterProg_std (hk : s.port.arg0.toNat < 128) : exec (.filterProg i false) s
    = .next (s.setInst i ((s.inst i).programStd s.port.arg0.toNat s.port.arg1 s.port.arg2)).done := by
  have hk' : ¬ slotCount false ≤ s.port.arg0.toNat := Nat.not_le.mpr hk
  simp only [exec, execFilterProg, s.arg0?_written h0, s.arg1?_written h1, s.arg2?_written h2,
    (s.running_iff i).mpr hr, if_true, if_neg hk', Bool.false_eq_true, if_false]

theorem exec_filterProg_ext (hk : s.port.arg0.toNat < 64) : exec (.filterProg i true) s
    = .next (s.setInst i ((s.inst i).programExt s.port.arg0.toNat s.port.arg1 s.port.arg2)).done := by
  have hk' : ¬ slotCount true ≤ s.port.arg0.toNat := Nat.not_le.mpr hk
  simp only [exec, execFilterProg, s.arg0?_written h0, s.arg1?_written h1, s.arg2?_written h2,
    (s.running_iff i).mpr hr, if_true, if_neg hk']

end

theorem encode_filterProg (i : InstId) (xtd : Bool) :
    encode (.filterProg i xtd) = 0x00000007 ||| (bit xtd <<< 9) ||| (bit (decide (i = .i1)) <<< 8) := by
  cases i <;> cases xtd <;> rfl

theorem withStatus_ok_eq_done (s : State) : withStatus s 0x00 = s.done := rfl

theorem fatalOn_eq_raiseFatal (s : State) (i : InstId) (kind : FatalKind) (code : Word) :
    fatalOn s i kind code = s.raiseFatal i kind code := by cases i <;> rfl

/-- Settles O23: with its operands written on a running controller, FILTER_PROG programs the slot its index names or,
past the type's slot count, raises the fatal fault. -/
theorem filterProgOutcomes : Obligations.FilterProgOutcomes := by
  refine fun i xtd => ⟨encode_filterProg i xtd, fun s => ⟨fun h => ?refused, fun h0 h1 h2 => ⟨fun hr => ?stopped,
    fun hr => ⟨fun hx hk => ?std, fun hx hk => ?ext, fun hk => ?index⟩⟩⟩⟩
  case refused => rw [exec_filterProg_of_unwritten h, refusedWith_eq_refuse]
  case stopped => rw [exec_filterProg_of_not_running h0 h1 h2 hr, refusedWith_eq_refuse]
  case std =>
    subst hx
    rw [exec_filterProg_std h0 h1 h2 hr hk, programStd_of_lt _ _ _ hk, withStatus_ok_eq_done]
  case ext =>
    subst hx
    rw [exec_filterProg_ext h0 h1 h2 hr hk, programExt_of_lt _ _ _ hk, withStatus_ok_eq_done]
  case index =>
    have hge : slotCount xtd ≤ s.port.arg0.toNat := by
      obtain ⟨rfl, h⟩ | ⟨rfl, h⟩ := hk <;> exact h
    rw [exec_filterProg_of_index_ge h0 h1 h2 hr hge, fatalOn_eq_raiseFatal, codeFilterIndex]

/-! ### The outcomes of ACCEPT -/

theorem exec_accept_of_unwritten (hw : s.port.written.arg0 = false) :
    exec (.accept i xtd rtr) s = .next (s.refuse .unwrittenOperand) := by
  simp only [exec, execAccept, s.arg0?_unwritten hw]

section
variable (hw : s.port.written.arg0 = true)
include hw

theorem exec_accept_of_not_running (hr : (s.inst i).life ≠ .running) :
    exec (.accept i xtd rtr) s = .next (s.refuse .notRunning) := by
  simp only [exec, execAccept, s.arg0?_written hw, if_neg (mt (s.running_iff i).mp hr)]

variable (hr : (s.inst i).life = .running)
include hr

theorem exec_accept_of_running :
    exec (.accept i xtd rtr) s = .next (s.answer ((s.inst i).judge (identOf xtd s.port.arg0) rtr)) := by
  simp only [exec, execAccept, s.arg0?_written hw, if_pos ((s.running_iff i).mpr hr)]

theorem exec_accept_of_remote_rejected (h : rejectsRemote (s.inst i).gfp xtd = true) :
    exec (.accept i xtd true) s = .next (withRes01 s 0x00 0 0xFFFFFFFF) := by
  rw [exec_accept_of_running hw hr, judge_of_remote_rejected ((identXtd_identOf _ _).symm ▸ h), answer_reject]

variable (hadmit : rtr = false ∨ rejectsRemote (s.inst i).gfp xtd = false)
include hadmit

theorem exec_accept_of_lowest_hit {k : Nat} (hit : (s.inst i).SlotHit (identOf xtd s.port.arg0) k)
    (hlow : ∀ j < k, ¬ (s.inst i).SlotHit (identOf xtd s.port.arg0) j) :
    exec (.accept i xtd rtr) s = .next (withRes01 s 0x00 1 (BitVec.ofNat 32 k)) := by
  rw [exec_accept_of_running hw hr, judge_of_lowest_hit ((identXtd_identOf _ _).symm ▸ hadmit) hit hlow, answer_fifo0]

theorem exec_accept_of_no_hit (hno : ∀ k, ¬ (s.inst i).SlotHit (identOf xtd s.port.arg0) k) :
    exec (.accept i xtd rtr) s = .next (noMatchResult s (nonMatchPolicy (s.inst i).gfp xtd)) := by
  rw [exec_accept_of_running hw hr, answer_judge_of_no_hit ((identXtd_identOf _ _).symm ▸ hadmit) s hno,
    identXtd_identOf]

/-- Both cases in the form of the claims, which give slot `k` its hit by a predicate over the slots there are. -/
theorem exec_accept_by_slots {n : Nat} {hits : (k : Nat) → k < n → Prop}
    (hslot : ∀ k, (s.inst i).SlotHit (identOf xtd s.port.arg0) k ↔ ∃ h, hits k h) :
    (∀ k (h : k < n), hits k h → (∀ j (hj : j < k), ¬ hits j (hj.trans h)) →
        exec (.accept i xtd rtr) s = .next (withRes01 s 0x00 1 (BitVec.ofNat 32 k)))
      ∧ ((∀ k (h : k < n), ¬ hits k h) →
        exec (.accept i xtd rtr) s = .next (noMatchResult s (nonMatchPolicy (s.inst i).gfp xtd))) := by
  refine ⟨fun k hk hit hlow => exec_accept_of_lowest_hit hw hr hadmit ((hslot k).mpr ⟨hk, hit⟩) fun j hj hhit => ?low,
    fun hno => exec_accept_of_no_hit hw hr hadmit fun k hhit => ?none⟩
  case low =>
    obtain ⟨_, hhit⟩ := (hslot j).mp hhit
    exact hlow j hj hhit
  case none =>
    obtain ⟨hk, hhit⟩ := (hslot k).mp hhit
    exact hno k hk hhit

end

theorem encode_accept (i : InstId) (xtd rtr : Bool) : encode (.accept i xtd rtr)
    = 0x00000008 ||| (bit rtr <<< 10) ||| (bit xtd <<< 9) ||| (bit (decide (i = .i1)) <<< 8) := by
  cases i <;> cases xtd <;> cases rtr <;> rfl

/-- Settles O25: ACCEPT answers the verdict on its masked identifier, which the remote policy, the lowest matching slot
or the non-matching policy decides. -/
theorem acceptOutcomes : Obligations.AcceptOutcomes := by
  refine fun i xtd rtr => ⟨encode_accept i xtd rtr, fun s => ⟨fun hw => ?refused, fun hw hr => ?stopped, fun hw hr =>
    ⟨?remote, fun hadmit => ⟨fun hx => ?std, fun hx => ?ext⟩⟩⟩⟩
  case refused => rw [exec_accept_of_unwritten hw, refusedWith_eq_refuse]
  case stopped => rw [exec_accept_of_not_running hw hr, refusedWith_eq_refuse]
  case remote =>
    rintro ⟨rfl, hrej⟩
    exact exec_accept_of_remote_rejected hw hr hrej
  case std =>
    subst hx
    exact exec_accept_by_slots hw hr hadmit fun k => by rw [identOf_false]; rfl
  case ext =>
    subst hx
    exact exec_accept_by_slots hw hr hadmit fun k => by rw [identOf_true]; rfl

end Sys2Proof.Machine
end

section
/-! Right after a configuration (43_filter_table.md R212), and remote frames under the configured policy (R213). -/

namespace Sys2Proof.Machine

variable {s t : State} {i : InstId}

/-! ### What a configuration leaves in slot 0 -/

/-- A configuration that leaves its controller running writes the baseline filters (44_controller_context.md R232). -/
theorem configure_finish_slot_zero {tm : Timing} (hr : ((configure i tm s).finish.inst i).life = .running) :
    ((configure i tm s).finish.inst i).sft[0] = .mask 0 0 ∧ ((configure i tm s).finish.inst i).xft[0] = .mask 0 0 := by
  obtain h | ⟨-, h⟩ | ⟨-, h⟩ := configure_cases i tm s
  · simp [h] at hr
  · simp [h] at hr
  · simp [h, State.configuredInst, InstState.baseline]

/-- INIT is refused or configures the controller it brought up. -/
theorem exec_init_cases (h : exec (.init i) s = .next t) :
    (∃ why, t = s.refuse why) ∨ ∃ tm, t = (configure i tm (s.bringUp i)).finish := by
  simp only [exec, execInit] at h
  split at h
  · cases h
    exact .inl ⟨_, rfl⟩
  · split at h
    · cases h
      exact .inr ⟨_, rfl⟩
    · cases h
      exact .inl ⟨_, rfl⟩

/-- SET_BIT_TIMING is refused or configures its controller. -/
theorem exec_setBitTiming_cases (h : exec (.setBitTiming i) s = .next t) :
    (∃ why, t = s.refuse why) ∨ ∃ tm, t = (configure i tm s).finish := by
  simp only [exec, execSetBitTiming] at h
  split at h
  · cases h
    exact .inl ⟨_, rfl⟩
  · split at h
    · cases h
      exact .inr ⟨_, rfl⟩
    · cases h
      exact .inl ⟨_, rfl⟩

/-- The baseline filter of either table matches every identifier of its type. -/
theorem slotHit_zero_of_baseline {r : InstState} (hstd : r.sft[0] = .mask 0 0) (hext : r.xft[0] = .mask 0 0)
    (a : Ident) : r.SlotHit a 0 := by
  cases a with
  | std v => exact ⟨by decide, hstd ▸ stdHit_mask_zero v⟩
  | ext v => exact ⟨by decide, hext ▸ extHit_mask_zero _⟩

/-- A configuration that leaves its controller running accepts every data frame by slot 0: no slot is lower. -/
theorem judge_of_configured {tm : Timing} (hr : ((configure i tm s).finish.inst i).life = .running) (a : Ident) :
    ((configure i tm s).finish.inst i).judge a false = .fifo0 0 := by
  obtain ⟨hstd, hext⟩ := configure_finish_slot_zero hr
  exact judge_of_lowest_hit (.inl rfl) (slotHit_zero_of_baseline hstd hext a) (by simp)

/-- Settles O26: either command, when it is not refused, ends in a configuration. -/
theorem configurationAcceptsEveryDataFrame : Obligations.ConfigurationAcceptsEveryDataFrame := by
  intro i s t h hnotRefused hr a
  obtain (⟨why, rfl⟩ | ⟨tm, rfl⟩) | ⟨why, rfl⟩ | ⟨tm, rfl⟩ := h.imp exec_init_cases exec_setBitTiming_cases
  · simp at hnotRefused
  · exact judge_of_configured hr a
  · simp at hnotRefused
  · exact judge_of_configured hr a

/-! ### Remote frames -/

/-- A frame that is not for FIFO 0 changes nothing on arrival (45_bus_agent.md R273). -/
theorem busRx_of_not_stored {bf : BusFrame} (h : ((s.inst i).judge bf.ident bf.rtr).stored = false) :
    busRx i bf s = s := by
  simp [busRx, h]

/-- FILTER_PROG leaves the policy of its controller alone, also when it faults or is refused. -/
theorem filterProg_gfp {xtd : Bool} (h : exec (.filterProg i xtd) s = .next t) :
    (t.inst i).gfp = (s.inst i).gfp := by
  cases effect_of_exec h with
  | refuse => simp
  | answer => cases i <;> rfl
  | filterProg => simp
  | filterIndex => simp

/-- Settles O27: the policy rejects remote frames of both types before the tables are consulted. -/
theorem configuredPolicyRejectsRemoteFrames : Obligations.ConfiguredPolicyRejectsRemoteFrames := by
  intro i s hstd hext
  have hrej : ∀ a, (s.inst i).judge a true = .reject := by
    intro a
    cases a with
    | std v => exact judge_of_remote_rejected hstd
    | ext v => exact judge_of_remote_rejected hext
  refine ⟨hrej, fun bf hrtr => busRx_of_not_stored ?_, fun _ _ => filterProg_gfp⟩
  rw [hrtr, hrej, Verdict.stored]

end Sys2Proof.Machine
end

section
/-! RX_ERR and TX_ERR (44_controller_context.md R250, R251). -/

namespace Sys2Proof.Machine

open Sys2Proof.Claims

variable {s : State} {i : InstId}

/-- The model's remainder modulo `2 ^ 8` is the claims' truncation to 8 bits. -/
theorem errorCount_eq_setWidth (raw : Nat) : errorCount raw = (BitVec.ofNat 8 raw).setWidth 32 := by
  rw [errorCount, ← BitVec.toNat_ofNat, BitVec.ofNat_toNat]

section
variable (hr : (s.inst i).life = .running)
include hr

theorem exec_rxErr_of_running : exec (.rxErr i) s = .next (s.setRes0 (errorCount (s.inst i).recRaw)).done :=
  if_pos ((s.running_iff i).mpr hr)

theorem exec_txErr_of_running : exec (.txErr i) s = .next (s.setRes0 (errorCount (s.inst i).tecRaw)).done :=
  if_pos ((s.running_iff i).mpr hr)

end

section
variable (hr : (s.inst i).life ≠ .running)
include hr

theorem exec_rxErr_of_not_running : exec (.rxErr i) s = .next (s.refuse .notRunning) :=
  if_neg (mt (s.running_iff i).mp hr)

theorem exec_txErr_of_not_running : exec (.txErr i) s = .next (s.refuse .notRunning) :=
  if_neg (mt (s.running_iff i).mp hr)

end

theorem encode_rxErr (i : InstId) : encode (.rxErr i) = 0x00000013 ||| (bit (decide (i = .i1)) <<< 8) := by
  cases i <;> rfl

theorem encode_txErr (i : InstId) : encode (.txErr i) = 0x00000014 ||| (bit (decide (i = .i1)) <<< 8) := by
  cases i <;> rfl

/-- Settles O32: both commands ask only whether their controller is running, and answer its counter truncated. -/
theorem errorCountOutcomes : Obligations.ErrorCountOutcomes := by
  refine fun i => ⟨encode_rxErr i, encode_txErr i, fun s => ⟨fun hr => ⟨?_, ?_⟩, fun hr => ⟨?_, ?_⟩⟩⟩
  · rw [exec_rxErr_of_running hr, errorCount_eq_setWidth, withRes0_ok_eq_done]
  · rw [exec_txErr_of_running hr, errorCount_eq_setWidth, withRes0_ok_eq_done]
  · rw [exec_rxErr_of_not_running hr, refusedWith_eq_refuse]
  · rw [exec_txErr_of_not_running hr, refusedWith_eq_refuse]

end Sys2Proof.Machine
end

section
/-! The configuration sequence in the claims' terms (44_controller_context.md R232 to R234, R241), and the two commands
that run it: SET_BIT_TIMING (R240) and INIT (R231). -/

namespace Sys2Proof.Machine

open Sys2Proof.Claims

variable {s : State} {i : InstId} {t : Timing}

/-! ### The timing operands -/

theorem timing?_of_hasTiming (h : HasTiming s) : s.timing? = some (timingArgs s) := by
  obtain ⟨h0, h1, h2, h3⟩ := h
  simp only [State.timing?, s.arg0?_written h0, s.arg1?_written h1, s.arg2?_written h2, s.arg3?_written h3]
  rfl

theorem hasTiming_of_timing? (h : s.timing? = some t) : HasTiming s := by
  unfold State.timing? at h
  split at h
  next h0 h1 h2 h3 =>
    simp only [State.arg0?, State.arg1?, State.arg2?, State.arg3?, Option.ite_none_right_eq_some] at h0 h1 h2 h3
    exact ⟨h0.1, h1.1, h2.1, h3.1⟩
  next => cases h

theorem timing?_of_not_hasTiming (h : ¬ HasTiming s) : s.timing? = none :=
  Option.eq_none_iff_forall_ne_some.mpr fun _ ht => h (hasTiming_of_timing? ht)

theorem positiveIn_iff (r : Range) (v : Nat) : positiveIn r v = true ↔ 1 ≤ v ∧ r.lo ≤ v ∧ v ≤ r.hi := by
  simp [positiveIn, Range.holds]

theorem validTiming_iff (g : TimingRange) (t : Timing) : validTiming g t = true ↔ ValidTiming g t := by
  simp only [validTiming, Bool.and_eq_true, positiveIn_iff, ValidTiming, and_assoc]

/-! ### The configuration sequence -/

/-- The record a configuration leaves, in the claims' form: each queue is emptied or kept (R241). -/
theorem configuredInst_eq (s : State) (i : InstId) (t : Timing) : ∃ txq rxf0 tef,
    s.configuredInst i t = configuredInst (s.inst i) t txq rxf0 tef
      ∧ (txq = [] ∨ txq = (s.inst i).txq) ∧ (rxf0 = [] ∨ rxf0 = (s.inst i).rxf0) ∧ (tef = [] ∨ tef = (s.inst i).tef)
      ∧ (s.params.reconfigQueues = .empty → txq = [] ∧ rxf0 = [] ∧ tef = []) := by
  obtain ⟨txq, rxf0, tef, hq, hkept⟩ :=
    s.reconfigureQueues_eq { s.inst i with life := .configured, timing := t, cfg := cfgConst }
  exact ⟨txq, rxf0, tef, by rw [State.configuredInst, hq]; rfl, hkept⟩

/-- Queues that are empty already are empty after a configuration, kept or not. -/
theorem configuredInst_of_empty_queues (htxq : (s.inst i).txq = []) (hrxf0 : (s.inst i).rxf0 = [])
    (htef : (s.inst i).tef = []) : s.configuredInst i t = configuredInst (s.inst i) t [] [] [] := by
  obtain ⟨txq, rxf0, tef, hinst, hq, hr, he, -⟩ := configuredInst_eq s i t
  rw [htxq, or_self] at hq
  rw [hrxf0, or_self] at hr
  rw [htef, or_self] at he
  rw [hinst, hq, hr, he]

theorem configure_finish_of_invalid (h : ¬ ValidTiming s.params.timingRange t) :
    (configure i t s).finish = fatalOn s i .configurationFault 0x02 := by
  have hv := Bool.eq_false_iff.mpr (mt (validTiming_iff _ _).mp h)
  rw [configure_invalid hv, fatalOn_eq_raiseFatal, codeTiming]

/-- A configuration fails only where `CONFIG_MAY_FAIL` allows it (R234). -/
theorem configFails_eq_false (h : s.params.configMayFail = false) : s.configFails = false := by
  simp [State.configFails, h]

/-- Valid timing configures the controller or meets the hardware failure (R234). -/
theorem configure_finish_of_valid {r : InstState} (h : ValidTiming s.params.timingRange t)
    (hr : s.configuredInst i t = r) :
    (s.params.configMayFail = false → (configure i t s).finish = withStatus (s.setInst i r) 0x00)
      ∧ (s.params.configMayFail = true → (configure i t s).finish = withStatus (s.setInst i r) 0x00
        ∨ ∃ code, (configure i t s).finish
            = fatalOn (s.setInst i { s.inst i with timing := t, cfg := fixedCfg }) i .hardwareFault code) := by
  have hv := (validTiming_iff _ _).mpr h
  have hdone (hf : s.configFails = false) : (configure i t s).finish = withStatus (s.setInst i r) 0x00 := by
    rw [configure_done hv hf, hr, withStatus_ok_eq_done]
  refine ⟨fun hm => hdone (configFails_eq_false hm), fun _ => ?_⟩
  cases hf : s.configFails with
  | false => exact .inl (hdone hf)
  | true => exact .inr ⟨s.drawWord 0, by rw [configure_failed hv hf, fatalOn_eq_raiseFatal]; rfl⟩

/-! ### SET_BIT_TIMING -/

theorem exec_setBitTiming_of_unwritten (h : ¬ HasTiming s) :
    exec (.setBitTiming i) s = .next (s.refuse .unwrittenOperand) := by
  simp only [exec, execSetBitTiming, timing?_of_not_hasTiming h]

theorem exec_setBitTiming_of_not_running (h : HasTiming s) (hr : (s.inst i).life ≠ .running) :
    exec (.setBitTiming i) s = .next (s.refuse .notRunning) := by
  simp only [exec, execSetBitTiming, timing?_of_hasTiming h, if_neg (mt (s.running_iff i).mp hr)]

theorem exec_setBitTiming_of_running (h : HasTiming s) (hr : (s.inst i).life = .running) :
    exec (.setBitTiming i) s = .next (configure i (timingArgs s) s).finish := by
  simp only [exec, execSetBitTiming, timing?_of_hasTiming h, if_pos ((s.running_iff i).mpr hr)]

theorem encode_setBitTiming (i : InstId) :
    encode (.setBitTiming i) = 0x00000012 ||| (bit (decide (i = .i1)) <<< 8) := by
  cases i <;> rfl

/-- Settles O31: with its operands written on a running controller, SET_BIT_TIMING runs the configuration sequence. -/
theorem setBitTimingOutcomes : Obligations.SetBitTimingOutcomes := by
  refine fun i => ⟨encode_setBitTiming i, fun s => ⟨fun h => ?refused, fun h hr => ?stopped, fun h hr =>
    ⟨fun hv => ?invalid, fun hv => ?valid⟩⟩⟩
  case refused => rw [exec_setBitTiming_of_unwritten h, refusedWith_eq_refuse]
  case stopped => rw [exec_setBitTiming_of_not_running h hr, refusedWith_eq_refuse]
  case invalid => rw [exec_setBitTiming_of_running h hr, configure_finish_of_invalid hv]
  case valid =>
    obtain ⟨txq, rxf0, tef, hinst, htxq, hrxf0, htef, hempty⟩ := configuredInst_eq s i (timingArgs s)
    refine ⟨txq, rxf0, tef, hempty, htxq, hrxf0, htef, ?_⟩
    simpa only [exec_setBitTiming_of_running h hr, Host.Outcome.next.injEq] using configure_finish_of_valid hv hinst

/-! ### INIT -/

theorem exec_init_of_unwritten (h : ¬ HasTiming s) : exec (.init i) s = .next (s.refuse .unwrittenOperand) := by
  simp only [exec, execInit, timing?_of_not_hasTiming h]

theorem exec_init_of_initialized (h : HasTiming s) (hl : (s.inst i).life ≠ .uninitialized) :
    exec (.init i) s = .next (s.refuse .alreadyInitialized) := by
  simp only [exec, execInit, timing?_of_hasTiming h, if_neg hl]

/-- Before its configuration INIT counts and enables the clock, calls the hooks and resets queues and tables. -/
theorem bringUp_eq_broughtUp (s : State) (i : InstId) :
    s.bringUp i = broughtUp s i s.unprogrammedStd s.unprogrammedExt := by
  have hhooks : (s.bringUp i).hooks
      = s.hooks ++ [.enablePeripheralClock, .configurePins i, .enableInterrupt i] := by
    simp [State.bringUp]
  rw [broughtUp, ← hhooks]
  cases i <;> rfl

theorem exec_init_of_uninitialized (h : HasTiming s) (hl : (s.inst i).life = .uninitialized) :
    exec (.init i) s
      = .next (configure i (timingArgs s) (broughtUp s i s.unprogrammedStd s.unprogrammedExt)).finish := by
  simp only [exec, execInit, timing?_of_hasTiming h, if_pos hl, bringUp_eq_broughtUp]

section
variable (s i) (sft : Vector StdFilter 128) (xft : Vector ExtFilter 64)

theorem broughtUp_params : (broughtUp s i sft xft).params = s.params := s.setInst_params i _

theorem broughtUp_inst : (broughtUp s i sft xft).inst i
    = { s.inst i with txq := [], rxf0 := [], tef := [], sft := sft, xft := xft, xidam := 0x1FFFFFFF } := by
  cases i <;> rfl

/-- INIT leaves the queues it emptied empty. -/
theorem broughtUp_configuredInst : (broughtUp s i sft xft).configuredInst i t
    = configuredInst ((broughtUp s i sft xft).inst i) t [] [] [] := by
  apply configuredInst_of_empty_queues <;> rw [broughtUp_inst]

end

theorem unprogrammed_of_disabled (h : s.params.unprogrammedSlot = .disabled) :
    s.unprogrammedStd = Vector.replicate 128 .disabled ∧ s.unprogrammedExt = Vector.replicate 64 .disabled := by
  simp [State.unprogrammedStd, State.unprogrammedExt, h]

theorem encode_init (i : InstId) : encode (.init i) = 0x00000010 ||| (bit (decide (i = .i1)) <<< 8) := by
  cases i <;> rfl

/-- Settles O29: with its operands written on an uninitialized controller, INIT runs the configuration sequence on the
controller it brought up. -/
theorem initOutcomes : Obligations.InitOutcomes := by
  refine fun i => ⟨encode_init i, fun s => ⟨fun h => ?refused, fun h hl => ?initialized, fun h hl =>
    ⟨s.unprogrammedStd, s.unprogrammedExt, unprogrammed_of_disabled, fun hv => ?invalid, fun hv => ?valid⟩⟩⟩
  case refused => rw [exec_init_of_unwritten h, refusedWith_eq_refuse]
  case initialized => rw [exec_init_of_initialized h hl, refusedWith_eq_refuse]
  case invalid =>
    rw [← broughtUp_params s i s.unprogrammedStd s.unprogrammedExt] at hv
    rw [exec_init_of_uninitialized h hl, configure_finish_of_invalid hv]
  case valid =>
    rw [← broughtUp_params s i s.unprogrammedStd s.unprogrammedExt] at hv
    simpa only [exec_init_of_uninitialized h hl, Host.Outcome.next.injEq, broughtUp_params]
      using configure_finish_of_valid hv (broughtUp_configuredInst s i _ _)

end Sys2Proof.Machine
end

section
/-! BUS_RX (45_bus_agent.md R273, R274): when an arrival is stored, and its entry in the claims' terms. -/

namespace Sys2Proof.Machine

open Sys2Proof.Claims

variable {s : State} {i : InstId} {bf : BusFrame}

/-! ### Legal frames (R271) -/

theorem legal_of_legalFrame (h : LegalFrame bf) : bf.legal = true := by
  obtain ⟨hremote, hdata⟩ := h
  rw [BusFrame.legal, beq_iff_eq]
  cases hrtr : bf.rtr with
  | true => rw [hremote hrtr, List.length_nil, if_pos rfl]
  | false => exact hdata hrtr _ (dlcToBytes_mem_dlcRows bf.dlc)

/-- A classic frame carries at most 8 bytes. -/
theorem data_length_le_of_legal (h : bf.legal = true) : bf.data.length ≤ 8 := by
  rw [BusFrame.legal, beq_iff_eq] at h
  rw [h]
  split
  · exact Nat.zero_le 8
  · exact Nat.min_le_right _ 8

/-! ### The entry of an arriving frame -/

theorem headerOf_r0 (L : Layout) (s : State) (v : Verdict) (bf : BusFrame) :
    (s.headerOf v bf).r0 L = arrivedR0 bf := by
  change idWord L bf.ident bf.rtr false = arrivedR0 bf
  cases L
  cases h : bf.ident with
  | std id => simp [idWord, arrivedR0, h, identField, identXtd, flagBit_eq_bit_shiftLeft, bit, placed]
  | ext id => simp [idWord, arrivedR0, h, identField, identXtd, flagBit_eq_bit_shiftLeft, bit]

/-- `BRS` and `FDF` are 0 in a classic frame. -/
theorem headerOf_r1 (L : Layout) (s : State) (v : Verdict) (bf : BusFrame) : (s.headerOf v bf).r1 L
    = (bit (decide (v = .fifo0NoMatch)) <<< 31) ||| ((s.fidxOf v).setWidth 32 <<< 24)
      ||| (bf.dlc.setWidth 32 <<< 16) ||| (s.headerOf v bf).rxts.setWidth 32 := by
  cases L
  simp [RxHeader.r1, State.headerOf, flagBit_eq_bit_shiftLeft, bit, placed]

/-- Draws fill the data of an entry up to 64 bytes. -/
theorem entryOf_data (s : State) (v : Verdict) (h : bf.data.length ≤ 64) :
    ∃ pad, (bf.data ++ pad).length = 64 ∧ (s.entryOf v bf).data = bf.data ++ pad :=
  ⟨_, by simp [h], rfl⟩

/-- The entry has the header words of R273. -/
theorem entryOf_eq (s : State) (v : Verdict) (h : bf.data.length ≤ 64) : ∃ (rxts : BitVec 16) (pad : List Byte),
    (bf.data ++ pad).length = 64
      ∧ s.entryOf v bf
        = { r0 := arrivedR0 bf
            r1 :=
              (bit (decide (v = .fifo0NoMatch)) <<< 31) ||| ((s.fidxOf v).setWidth 32 <<< 24)
                ||| (bf.dlc.setWidth 32 <<< 16) ||| rxts.setWidth 32
            data := bf.data ++ pad } := by
  obtain ⟨pad, hlen, hdata⟩ := entryOf_data s v h
  refine ⟨(s.headerOf v bf).rxts, pad, hlen, ?_⟩
  rw [← headerOf_r0 s.params.layout s v, ← headerOf_r1 s.params.layout, ← hdata]
  rfl

/-! ### When an arrival is stored -/

theorem Verdict.stored_eq_true_iff {v : Verdict} : v.stored = true ↔ (∃ k, v = .fifo0 k) ∨ v = .fifo0NoMatch := by
  cases v <;> simp [Verdict.stored]

theorem Verdict.stored_eq_false_iff {v : Verdict} : v.stored = false ↔ v = .reject ∨ v = .fifo1 := by
  cases v <;> simp [Verdict.stored]

theorem busRx_of_not_running (hr : (s.inst i).life ≠ .running) : busRx i bf s = s := by
  simp [busRx, (s.not_running_iff i).mpr hr]

theorem busRx_of_stored (hr : (s.inst i).life = .running) (hlegal : bf.legal = true)
    (h : ((s.inst i).judge bf.ident bf.rtr).stored = true) :
    busRx i bf s = s.setInst i
      ((s.inst i).store s.params.rxOverflow (s.entryOf ((s.inst i).judge bf.ident bf.rtr) bf)) := by
  simp [busRx, (s.running_iff i).mpr hr, hlegal, h]

/-- Settles O34: an arrival that is stored brings the entry of R273, and the fill level and `RX_OVERFLOW` say where it
goes. -/
theorem busRxStoresAcceptedFrames : Obligations.BusRxStoresAcceptedFrames := by
  refine fun i s bf hbf => ⟨busRx_of_not_running, fun hr =>
    ⟨fun hv => busRx_of_not_stored (Verdict.stored_eq_false_iff.mpr hv), fun hv => ?_⟩⟩
  have hlegal := legal_of_legalFrame hbf
  have hrx := busRx_of_stored hr hlegal (Verdict.stored_eq_true_iff.mpr hv)
  obtain ⟨rxts, pad, hlen, hentry⟩ := entryOf_eq s ((s.inst i).judge bf.ident bf.rtr)
    ((data_length_le_of_legal hlegal).trans (by decide))
  rw [hentry] at hrx
  refine ⟨s.fidxOf ((s.inst i).judge bf.ident bf.rtr), rxts, pad, fun k hk => ?slot, hlen, fun hroom => ?room,
    fun hfull hdrop => ?dropNew, fun hfull hover => ?overwrite⟩
  case slot => rw [hk, State.fidxOf]
  case room => rw [hrx, store_room _ _ _ hroom]
  case dropNew => rw [hrx, hdrop, store_dropNew _ _ (Nat.not_lt.mpr hfull), State.setInst_inst]
  case overwrite => rw [hrx, hover, store_overwrite _ _ (Nat.not_lt.mpr hfull)]

end Sys2Proof.Machine
end

section
/-! The command word (30_encoding.md R90, R91, R93): splitting a word into its fields and putting them together are
inverse to each other, and so are the command map and the fields of a command; well-formed fields are those of the legal
words. -/

namespace Sys2Proof

/-! ### Fields and words -/

theorem RawCmd.ofWord_toWord (c : RawCmd) : RawCmd.ofWord c.toWord = c := by
  have hres : field c.toWord 11 21 = c.reserved := by
    apply BitVec.eq_of_getLsbD_eq
    intro k hk
    have hw : 11 + k < 32 := by omega
    have hf : 11 + k ≠ 10 ∧ 11 + k ≠ 9 ∧ 11 + k ≠ 8 := by omega
    have hopc : c.opc.getLsbD (11 + k) = false := BitVec.getLsbD_of_ge _ _ (by omega)
    simp [RawCmd.toWord, hk, hw, hf, hopc]
  have hopc : field c.toWord 0 8 = c.opc := by
    apply BitVec.eq_of_getLsbD_eq
    intro k hk
    have hw : k < 32 := by omega
    have hf : ¬ 11 ≤ k ∧ k ≠ 10 ∧ k ≠ 9 ∧ k ≠ 8 := by omega
    simp [RawCmd.toWord, hk, hw, hf]
  have hrtr : c.toWord.getLsbD 10 = c.rtr := by simp [RawCmd.toWord]
  have hxtd : c.toWord.getLsbD 9 = c.xtd := by simp [RawCmd.toWord]
  have hinst : c.toWord.getLsbD 8 = c.inst := by simp [RawCmd.toWord]
  rw [RawCmd.ofWord, hres, hrtr, hxtd, hinst, hopc]

theorem RawCmd.toWord_ofWord (w : Word) : (RawCmd.ofWord w).toWord = w := by
  apply BitVec.eq_of_getLsbD_eq
  intro k hk
  obtain h | rfl | rfl | rfl | h : k < 8 ∨ k = 8 ∨ k = 9 ∨ k = 10 ∨ 11 ≤ k := by omega
  · have hf : ¬ 11 ≤ k ∧ k ≠ 10 ∧ k ≠ 9 ∧ k ≠ 8 := by omega
    simp [RawCmd.toWord, RawCmd.ofWord, hk, h, hf]
  · simp [RawCmd.toWord, RawCmd.ofWord]
  · simp [RawCmd.toWord, RawCmd.ofWord]
  · simp [RawCmd.toWord, RawCmd.ofWord]
  · have hf : k ≠ 10 ∧ k ≠ 9 ∧ k ≠ 8 ∧ ¬ k < 8 ∧ k - 11 < 21 := by omega
    have hk' : 11 + (k - 11) = k := by omega
    simp [RawCmd.toWord, RawCmd.ofWord, hk, h, hf, hk']

/-! ### Fields and commands -/

/-- The command map gives the fields of a command the command back: its opcode is that of its row, and a flag its row
does not use is clear. -/
theorem decodeRaw_raw (i : Instr) : decodeRaw i.raw = .ok i := by
  cases i with
  | dlcEnc | dlcDec | frameDec | frameEnc => rfl
  | write i | read i | filterProg i | accept i | txFree i | init i | deinit i | setBitTiming i | rxErr i | txErr i =>
    cases i <;> rfl

/-- Settles O1: the word holds the command's fields, and the command map reads them back. -/
theorem decodeOfEncodeIsTheInstruction : Obligations.DecodeOfEncodeIsTheInstruction := by
  intro i
  rw [decode, encode, RawCmd.ofWord_toWord, decodeRaw_raw]

/-- Settles O2: a command has the fields of the word it was read from, and the fields make up the word. -/
theorem encodeOfDecodeIsTheWord : Obligations.EncodeOfDecodeIsTheWord := by
  intro w i h
  rw [encode, raw_of_decodeRaw h, RawCmd.toWord_ofWord]

/-! ### Well-formed fields decode -/

section
variable {c : RawCmd}

/-- A flag the row does not use is clear (30_encoding.md R93). -/
theorem flagsAllowed_iff {u : FlagUse} (hu : flagUse c.opc = some u) : c.flagsAllowed = true
    ↔ (u.inst = false → c.inst = false) ∧ (u.xtd = false → c.xtd = false) ∧ (u.rtr = false → c.rtr = false) := by
  obtain ⟨inst, xtd, rtr⟩ := u
  simp only [RawCmd.flagsAllowed, hu]
  cases inst <;> cases xtd <;> cases rtr <;> simp [and_assoc]

variable (h : c.flagsAllowed = true)
include h

theorem noFlags_of_flagsAllowed (i : Instr) (hu : flagUse c.opc = some { inst := false, xtd := false, rtr := false }) :
    noFlags c i = .ok i := by
  obtain ⟨hinst, hxtd, hrtr⟩ := (flagsAllowed_iff hu).mp h
  exact noFlags_eq_ok.mpr ⟨hinst rfl, hxtd rfl, hrtr rfl, rfl⟩

theorem instOnly_of_flagsAllowed (i : Instr) (hu : flagUse c.opc = some { inst := true, xtd := false, rtr := false }) :
    instOnly c i = .ok i := by
  obtain ⟨-, hxtd, hrtr⟩ := (flagsAllowed_iff hu).mp h
  exact instOnly_eq_ok.mpr ⟨hxtd rfl, hrtr rfl, rfl⟩

theorem frameFlags_of_flagsAllowed (i : Instr)
    (hu : flagUse c.opc = some { inst := false, xtd := true, rtr := true }) : frameFlags c i = .ok i := by
  obtain ⟨hinst, -⟩ := (flagsAllowed_iff hu).mp h
  exact frameFlags_eq_ok.mpr ⟨hinst rfl, rfl⟩

theorem instXtd_of_flagsAllowed (i : Instr) (hu : flagUse c.opc = some { inst := true, xtd := true, rtr := false }) :
    instXtd c i = .ok i := by
  obtain ⟨-, -, hrtr⟩ := (flagsAllowed_iff hu).mp h
  exact instXtd_eq_ok.mpr ⟨hrtr rfl, rfl⟩

end

/-- Fields that pass the three checks of 30_encoding.md R93 are a command's. -/
theorem exists_decodeRaw_of_wf {c : RawCmd} (h : c.wf = true) : ∃ i, decodeRaw c = .ok i := by
  simp only [RawCmd.wf, Bool.and_eq_true] at h
  obtain ⟨⟨hres, hopc⟩, hflags⟩ := h
  rw [decodeRaw, if_neg (not_not.mpr (beq_iff_eq.mp hres))]
  split
  case h_1 ho | h_2 ho | h_4 ho => exact ⟨_, noFlags_of_flagsAllowed hflags _ (by simp [flagUse, ho])⟩
  case h_3 ho => exact ⟨_, frameFlags_of_flagsAllowed hflags _ (by simp [flagUse, ho])⟩
  case h_5 | h_8 => exact ⟨_, rfl⟩
  case h_7 ho => exact ⟨_, instXtd_of_flagsAllowed hflags _ (by simp [flagUse, ho])⟩
  case h_15 => simp [RawCmd.opcodeKnown, flagUse] at hopc
  all_goals
    next ho => exact ⟨_, instOnly_of_flagsAllowed hflags _ (by simp [flagUse, ho])⟩

theorem decode_isOk_iff_wf {w : Word} : (∃ i, decode w = .ok i) ↔ (RawCmd.ofWord w).wf = true :=
  ⟨fun ⟨_, h⟩ => wf_of_decode h, exists_decodeRaw_of_wf⟩

end Sys2Proof

namespace Sys2Proof.Claims

/-- Each check a word's fields fail is a clause of 30_encoding.md R93. -/
theorem illegalWord_of_not_wf {w : Word} (h : (RawCmd.ofWord w).wf = false) : IllegalWord w := by
  by_contra hlegal
  simp only [IllegalWord, not_or, not_not, not_forall, not_exists, not_and] at hlegal
  obtain ⟨hres, ⟨row, hrow, hopc⟩, hflag⟩ := hlegal
  obtain ⟨hinst, hxtd, hrtr⟩ := hflag row hrow hopc
  have huse : flagUse (RawCmd.ofWord w).opc = _ := hopc ▸ flagUse_of_mem_commandRows row hrow
  have hclear : (RawCmd.ofWord w).reservedClear = true := beq_iff_eq.mpr hres
  have hknown : (RawCmd.ofWord w).opcodeKnown = true := by rw [RawCmd.opcodeKnown, huse, Option.isSome_some]
  have hallowed : (RawCmd.ofWord w).flagsAllowed = true := by
    refine (flagsAllowed_iff huse).mpr ⟨fun hu => ?_, fun hu => ?_, fun hu => ?_⟩
    · exact Bool.eq_false_of_not_eq_true fun hw => hinst hw hu
    · exact Bool.eq_false_of_not_eq_true fun hw => hxtd hw hu
    · exact Bool.eq_false_of_not_eq_true fun hw => hrtr hw hu
  simp [RawCmd.wf, hclear, hknown, hallowed] at h

theorem wf_iff_not_illegalWord {w : Word} : (RawCmd.ofWord w).wf = true ↔ ¬ IllegalWord w := by
  refine ⟨fun h hill => ?_, fun h => ?_⟩
  · simp [hill.wf_eq_false] at h
  · exact Bool.of_not_eq_false (mt illegalWord_of_not_wf h)

/-- Settles O3: a word decodes exactly when its fields are well formed, and they are exactly when no clause of
30_encoding.md R93 holds of it. -/
theorem decodesExactlyLegalWords : Obligations.DecodesExactlyLegalWords :=
  fun _ => ⟨decode_isOk_iff_wf.trans wf_iff_not_illegalWord, wf_iff_not_illegalWord⟩

/-- Settles O5: one word for each family of the command map, evaluated. -/
theorem writtenOutWordsDecode : Obligations.WrittenOutWordsDecode := ⟨rfl, rfl, rfl, rfl, rfl, rfl⟩

end Sys2Proof.Claims
end

section
/-! What a command changes, read off its effect: a refusal and an undefined operation change their flag and its record
only (60_exceptions.md R307, R309); every other outcome keeps the flags, the parameters and the schedule. The host
writes the operand ports, the block the result ports (10_state.md R20). -/

namespace Sys2Proof.Machine

open Sys2Proof.Claims

variable {s t : State} {c : Instr}

/-! ### The three outcomes -/

/-- Only ports, instance records, the clock and the hooks differ: a typed result or a fatal fault. -/
def State.BlockUpdate (s t : State) : Prop :=
  t = { s with
    port := t.port, inst0 := t.inst0, inst1 := t.inst1, clkRef := t.clkRef, clkOn := t.clkOn, hooks := t.hooks }

theorem State.BlockUpdate.trans {u : State} (h : s.BlockUpdate t) (h' : t.BlockUpdate u) : s.BlockUpdate u := by
  unfold State.BlockUpdate at *
  rw [h', h]

theorem blockUpdate_setInst (i : InstId) (r : InstState) : s.BlockUpdate (s.setInst i r) := by cases i <;> rfl

theorem blockUpdate_hook (e : HookEvent) : s.BlockUpdate (s.hook e) := rfl

theorem blockUpdate_bringUp (i : InstId) : s.BlockUpdate (s.bringUp i) := by cases i <;> rfl

theorem blockUpdate_releaseClock : s.BlockUpdate s.releaseClock := by
  unfold State.releaseClock
  split <;> rfl

/-- DEINIT of a running instance (44_controller_context.md R236). -/
theorem blockUpdate_release (i : InstId) : s.BlockUpdate (State.releaseClock
    (State.hook (.disableInterrupt i) (State.hook (.releasePins i) (s.setInst i (s.released i))))).done :=
  (blockUpdate_setInst i _).trans ((blockUpdate_hook _).trans ((blockUpdate_hook _).trans
    (blockUpdate_releaseClock.trans rfl)))

theorem blockUpdate_raiseFatal (i : InstId) (kind : FatalKind) (code : Word) :
    s.BlockUpdate (s.raiseFatal i kind code) := by cases i <;> rfl

theorem blockUpdate_configure_finish (i : InstId) (tm : Timing) : s.BlockUpdate (configure i tm s).finish := by
  obtain h | ⟨-, h⟩ | ⟨-, h⟩ := configure_cases i tm s <;> rw [h]
  · exact blockUpdate_raiseFatal i _ _
  · exact (blockUpdate_setInst i _).trans (blockUpdate_raiseFatal i _ _)
  · exact (blockUpdate_setInst i _).trans rfl

/-- The commands that can meet an undefined length (60_exceptions.md R307). -/
def TakesLength (c : Instr) : Prop :=
  c = .dlcEnc ∨ (∃ xtd rtr, c = .frameEnc xtd rtr) ∨ ∃ i xtd rtr, c = .write i xtd rtr

/-- A command is refused, meets an undefined length, or keeps everything outside the block's storage. -/
theorem Effect.outcome (h : Effect s c t) :
    (∃ why, t = s.refuse why) ∨ (TakesLength c ∧ ∃ n, bytesToDlc n = none ∧ t = s.raiseUndefined n)
      ∨ s.BlockUpdate t := by
  cases h with
  | refuse why => exact .inl ⟨_, rfl⟩
  | dlcEncUndefined n hn => exact .inr (.inl ⟨.inl rfl, n, hn, rfl⟩)
  | frameEncUndefined xtd rtr n hn => exact .inr (.inl ⟨.inr (.inl ⟨_, _, rfl⟩), n, hn, rfl⟩)
  | writeUndefined i xtd rtr n hn => exact .inr (.inl ⟨.inr (.inr ⟨_, _, _, rfl⟩), n, hn, rfl⟩)
  | answer | frameDec => exact .inr (.inr rfl)
  | write i | read i | filterProg i => exact .inr (.inr ((blockUpdate_setInst i _).trans rfl))
  | filterIndex i => exact .inr (.inr (blockUpdate_raiseFatal i _ _))
  | init i tm =>
    exact .inr (.inr ((blockUpdate_bringUp i).trans (blockUpdate_configure_finish i tm)))
  | deinit i => exact .inr (.inr (blockUpdate_release i))
  | setBitTiming i tm => exact .inr (.inr (blockUpdate_configure_finish i tm))

/-! ### The ports -/

theorem port_bringUp (i : InstId) : (s.bringUp i).port = s.port := by cases i <;> rfl

theorem port_releaseClock : s.releaseClock.port = s.port := by
  unfold State.releaseClock
  split <;> rfl

theorem port_configure_finish (i : InstId) (tm : Timing) :
    (configure i tm s).finish.port = s.port ∨ (configure i tm s).finish.port = { s.port with status := 0 } := by
  obtain h | ⟨-, h⟩ | ⟨-, h⟩ := configure_cases i tm s <;> simp [h]

theorem answers_status_ok (p : Port) : p.Answers { p with status := 0 } := ⟨rfl, Nat.zero_le 5⟩

/-- A command writes result ports only, and a result code of 60_exceptions.md R302 where it writes one. -/
theorem Effect.port_eq_or_answers (h : Effect s c t) : t.port = s.port ∨ s.port.Answers t.port := by
  cases h with
  | refuse | dlcEncUndefined | frameEncUndefined | writeUndefined => exact .inl rfl
  | filterIndex i => exact .inl (s.raiseFatal_port i _ _)
  | answer _ _ h | frameDec _ h | read _ _ h => exact .inr h
  | write i => exact .inr ⟨by simp, by simp⟩
  | filterProg i => exact .inr (by simpa using answers_status_ok s.port)
  | deinit i => exact .inr (by simpa [port_releaseClock] using answers_status_ok s.port)
  | init i tm =>
    have h := port_configure_finish (s := s.bringUp i) i tm
    rw [port_bringUp] at h
    obtain h | h := h
    · exact .inl h
    · exact .inr (h ▸ answers_status_ok s.port)
  | setBitTiming i tm =>
    obtain h | h := port_configure_finish (s := s) i tm
    · exact .inl h
    · exact .inr (h ▸ answers_status_ok s.port)

/-- What a command leaves of the port: the fields the host writes. -/
theorem Effect.port_fields (h : Effect s c t) : t.port = { s.port with
    res0 := t.port.res0, res1 := t.port.res1, rxbuf := t.port.rxbuf, rxlen := t.port.rxlen
    status := t.port.status } := by
  obtain h | h := h.port_eq_or_answers
  · rw [h]
  · exact h.fields

/-- What no command writes: the parameters, the schedule and the emitted frames. -/
theorem Effect.keeps (h : Effect s c t) : t.params = s.params ∧ t.agenda = s.agenda ∧ t.turnNo = s.turnNo
    ∧ t.emitted = s.emitted := by
  obtain ⟨_, rfl⟩ | ⟨-, _, -, rfl⟩ | h := h.outcome
  · exact ⟨rfl, rfl, rfl, rfl⟩
  · exact ⟨rfl, rfl, rfl, rfl⟩
  · rw [h]
    exact ⟨rfl, rfl, rfl, rfl⟩

/-- Settles O51: the fields the host writes are those a command keeps of the port, and no outcome writes the rest. -/
theorem commandsKeepParametersAndOperands : Obligations.CommandsKeepParametersAndOperands := by
  intro c s t h
  have he := effect_of_exec h
  obtain ⟨hparams, hagenda, hturn, hemitted⟩ := he.keeps
  have hpos := he.hostPos_eq
  rw [he.port_fields]
  exact ⟨hparams, rfl, rfl, rfl, rfl, rfl, rfl, rfl, rfl, hagenda, hturn, hpos, hemitted⟩

/-- Settles O49: a query is refused, meets an undefined length or answers, and only FRAME_DEC delivers a frame. -/
theorem queriesChangeNoBlockState : Obligations.QueriesChangeNoBlockState := by
  intro c s t hq h
  cases effect_of_exec h with
  | refuse | dlcEncUndefined | frameEncUndefined => exact ⟨rfl, fun _ => ⟨rfl, rfl⟩⟩
  | answer _ q ha hb hl => exact ⟨congrArg (fun p => { s with port := p }) ha.fields, fun _ => ⟨hb, hl⟩⟩
  | frameDec q ha => exact ⟨congrArg (fun p => { s with port := p }) ha.fields, fun hne => absurd rfl hne⟩
  | write | writeUndefined | read | filterProg | filterIndex | init | deinit | setBitTiming => exact hq.elim

/-! ### The sticky flags -/

/-- Settles O45: no outcome but a refusal sets the flag. -/
theorem refusalChangesNothingElse : Obligations.RefusalChangesNothingElse := by
  intro c s t hs h ht
  obtain ⟨why, rfl⟩ | ⟨-, n, -, rfl⟩ | h := (effect_of_exec h).outcome
  · exact ⟨why, refusedWith_eq_refuse s why ▸ rfl⟩
  · simp [hs] at ht
  · rw [h] at ht
    simp [hs] at ht

/-- A host turn faults once the host has stopped (60_exceptions.md R306, R307, R309). -/
theorem step_of_host_stopped {x : Issue} {rest : List Turn} {f : Fault} (ha : s.agenda = .host x :: rest)
    (hs : s.hostStop? = some f) : step s = .fault f := by
  simp [step, ha, takeTurn, hostTurn, State.beginTurn_hostStop?, hs]

theorem State.exists_hostStop?_iff : (∃ f, s.hostStop? = some f)
    ↔ s.inst0.fatal ≠ none ∨ s.inst1.fatal ≠ none ∨ s.undef = true ∨ s.refused = true := by
  rw [← Option.ne_none_iff_exists', Ne, State.hostStop?_eq_none]
  simp only [not_and_or, Bool.not_eq_false, ne_eq]

/-- Settles O44: only an undefined length sets the flag. -/
theorem undefinedLengthChangesNothingElse : Obligations.UndefinedLengthChangesNothingElse := by
  intro c s t hs h ht
  obtain ⟨_, rfl⟩ | ⟨hc, n, hn, rfl⟩ | h := (effect_of_exec h).outcome
  · simp [hs] at ht
  · refine ⟨hc, ⟨n, bytesToDlc_eq_none_iff.mp hn, (undefinedWith_eq_raiseUndefined s n).symm⟩, fun x rest => ?_⟩
    obtain ⟨f, hf⟩ : ∃ f, (s.raiseUndefined n).hostStop? = some f :=
      State.exists_hostStop?_iff.mpr (.inr (.inr (.inl rfl)))
    exact ⟨f, step_of_host_stopped rfl hf⟩
  · rw [h] at ht
    simp [hs] at ht

/-- A step answers a next state or is the turn of a host that has stopped. -/
theorem step_outcome (s : State) : (∃ t, step s = .next t)
    ∨ ∃ c rest f, s.agenda = .host c :: rest ∧ s.hostStop? = some f ∧ step s = .fault f := by
  cases ha : s.agenda with
  | nil => exact .inl ⟨s, by rw [step, ha]⟩
  | cons x rest =>
    cases x with
    | busTx i => exact .inl ⟨busTx i (s.beginTurn rest), by rw [step, ha]; rfl⟩
    | busRx i bf => exact .inl ⟨busRx i bf (s.beginTurn rest), by rw [step, ha]; rfl⟩
    | host c =>
      cases hs : s.hostStop? with
      | some f => exact .inr ⟨c, rest, f, rfl, rfl, step_of_host_stopped ha hs⟩
      | none =>
        obtain ⟨u, hu, -⟩ := runPort_next ((s.beginTurn rest).present c)
        exact .inl ⟨_, by rw [step_of_host ha hs, hu]; rfl⟩

/-- Settles O41: a recorded stop is asked before anything else of a host turn, and no other step stops. -/
theorem stoppedHostHasNoFurtherStep : Obligations.StoppedHostHasNoFurtherStep := by
  refine ⟨fun s c rest ha hstop => ?stops, fun s f hf => ?fault, fun s r hr => ?refused⟩
  case stops =>
    obtain ⟨f, hf⟩ := State.exists_hostStop?_iff.mpr hstop
    exact ⟨f, step_of_host_stopped ha hf⟩
  case fault =>
    obtain ⟨t, ht⟩ | ⟨c, rest, f', ha, hs, -⟩ := step_outcome s
    · simp [hf] at ht
    · exact ⟨⟨c, rest, ha⟩, State.exists_hostStop?_iff.mp ⟨f', hs⟩⟩
  case refused =>
    obtain ⟨t, ht⟩ | ⟨c, rest, f, -, -, hf⟩ := step_outcome s
    · simp [hr] at ht
    · simp [hr] at hf

end Sys2Proof.Machine
end

section
/-! The instance records over a command (10_state.md R23, R40): a command leaves every record it does not name alone,
and what it makes of the life and the fatal record of the one it names is read off its effect
(44_controller_context.md R245, 60_exceptions.md R305). -/

namespace Sys2Proof.Machine

open Sys2Proof.Claims

variable {s t : State} {c : Instr} {i j : InstId}

/-! ### Records a command does not name -/

theorem State.inst_withPort (s : State) (q : Port) (i : InstId) : { s with port := q }.inst i = s.inst i := by
  cases i <;> rfl

@[simp] theorem State.inst_releaseClock (s : State) (i : InstId) : s.releaseClock.inst i = s.inst i := by
  unfold State.releaseClock
  split <;> cases i <;> rfl

/-- There are two instances. -/
theorem InstId.cases_of_ne (h : i ≠ j) : (i = .i0 ∧ j = .i1) ∨ (i = .i1 ∧ j = .i0) := by
  revert h
  cases i <;> cases j <;> decide

theorem State.inst_bringUp_ne (h : j ≠ i) : (s.bringUp i).inst j = s.inst j := by
  obtain ⟨rfl, rfl⟩ | ⟨rfl, rfl⟩ := InstId.cases_of_ne h <;> rfl

theorem configure_finish_inst_ne (tm : Timing) (h : j ≠ i) : (configure i tm s).finish.inst j = s.inst j := by
  obtain hc | ⟨-, hc⟩ | ⟨-, hc⟩ := configure_cases i tm s
  all_goals simp [hc, State.raiseFatal_inst_ne, State.inst_setInst_ne, h]

/-- A command leaves the record of an instance it does not name as it was (10_state.md R40). -/
theorem Effect.inst_ne (h : Effect s c t) (hj : target c ≠ some j) : t.inst j = s.inst j := by
  have hne : ∀ {i}, target c = some i → j ≠ i := fun hi hji => hj (hji ▸ hi)
  cases h with
  | refuse | dlcEncUndefined | frameEncUndefined | writeUndefined => simp
  | answer | frameDec => rw [State.inst_withPort]
  | read => rw [State.inst_withPort, State.inst_setInst_ne _ _ _ _ (hne rfl)]
  | write | filterProg | deinit => simp [State.inst_setInst_ne, hne rfl]
  | filterIndex => exact s.raiseFatal_inst_ne _ _ _ _ (hne rfl)
  | init i tm => rw [configure_finish_inst_ne tm (hne rfl), State.inst_bringUp_ne (hne rfl)]
  | setBitTiming i tm => exact configure_finish_inst_ne tm (hne rfl)

/-! ### The life and the fatal record of the instance a command names -/

/-- The record of an instance INIT brings up: not initialized yet, with empty queues (44_controller_context.md R231). -/
theorem State.inst_bringUp_self (s : State) (i : InstId) : (s.bringUp i).inst i
    = { s.inst i with
        txq := [], rxf0 := [], tef := [], sft := s.unprogrammedStd, xft := s.unprogrammedExt
        xidam := 0x1FFFFFFF } := by
  rw [bringUp_eq_broughtUp, broughtUp_inst]

/-- A configured controller is running and has the fatal record it had. -/
theorem State.configuredInst_life_fatal (s : State) (i : InstId) (tm : Timing) :
    (s.configuredInst i tm).life = .running ∧ (s.configuredInst i tm).fatal = (s.inst i).fatal := by
  obtain ⟨txq, rxf0, tef, h, -⟩ := configuredInst_eq s i tm
  rw [h]
  exact ⟨rfl, rfl⟩

/-- The kinds and codes of 60_exceptions.md R305, by the command that raises them. -/
def FatalSource (s : State) (c : Instr) (j : InstId) (kind : FatalKind) (code : Word) : Prop :=
  ((∃ xtd, c = .filterProg j xtd) ∧ kind = .configurationFault ∧ code = 0x01)
    ∨ ((c = .init j ∨ c = .setBitTiming j)
      ∧ ((kind = .configurationFault ∧ code = 0x02) ∨ (kind = .hardwareFault ∧ s.params.configMayFail = true)))

/-- A command that ends in a fatal fault of instance `j`, which INIT found uninitialized and any other command running:
it reports that fault and no other. -/
def EndsFatal (s : State) (c : Instr) (j : InstId) (t : State) : Prop :=
  ∃ (u : State) (kind : FatalKind) (code : Word), t = u.raiseFatal j kind code ∧ FatalSource s c j kind code
    ∧ u.hooks.countP HookEvent.isReport = s.hooks.countP HookEvent.isReport
    ∧ ((c = .init j ∧ (s.inst j).life = .uninitialized) ∨ (c ≠ .init j ∧ (s.inst j).life = .running))

/-- A configuration ends in a fatal fault of its instance, or leaves it running. -/
theorem configure_finish_ends {u : State} (tm : Timing)
    (hc : (c = .init i ∧ (s.inst i).life = .uninitialized) ∨ (c = .setBitTiming i ∧ (s.inst i).life = .running))
    (hp : u.params = s.params) (hh : u.hooks.countP HookEvent.isReport = s.hooks.countP HookEvent.isReport) :
    EndsFatal s c i (configure i tm u).finish
      ∨ (((configure i tm u).finish.inst i).life = .running
        ∧ ((configure i tm u).finish.inst i).fatal = (u.inst i).fatal) := by
  have hsource := hc.imp And.left And.left
  have hlife : (c = .init i ∧ (s.inst i).life = .uninitialized) ∨ (c ≠ .init i ∧ (s.inst i).life = .running) :=
    hc.imp_right fun ⟨h, hr⟩ => ⟨by simp [h], hr⟩
  obtain h | ⟨hm, h⟩ | ⟨-, h⟩ := configure_cases i tm u
  · exact .inl ⟨u, _, _, h, .inr ⟨hsource, .inl ⟨rfl, rfl⟩⟩, hh, hlife⟩
  · exact .inl ⟨_, _, _, h, .inr ⟨hsource, .inr ⟨rfl, hp ▸ hm⟩⟩, by rw [State.setInst_hooks, hh], hlife⟩
  · rw [h, State.inst_done, State.inst_setInst_self]
    exact .inr (u.configuredInst_life_fatal i tm)

theorem bringUp_params (s : State) (i : InstId) : (s.bringUp i).params = s.params := by cases i <;> rfl

/-- INIT reports no fault before its configuration. -/
theorem bringUp_countP_isReport (s : State) (i : InstId) :
    (s.bringUp i).hooks.countP HookEvent.isReport = s.hooks.countP HookEvent.isReport := by
  simp [bringUp_eq_broughtUp, broughtUp, HookEvent.isReport]

/-- What a command makes of an instance's life (44_controller_context.md R245), unless it ends in a fatal fault: the
fatal record stays. -/
theorem Effect.life_cases (h : Effect s c t) (j : InstId) : EndsFatal s c j t
    ∨ ((t.inst j).fatal = (s.inst j).fatal ∧ ((t.inst j).life = (s.inst j).life
      ∨ (c = .init j ∧ (s.inst j).life = .uninitialized ∧ (t.inst j).life = .running)
      ∨ (c = .deinit j ∧ (s.inst j).life = .running ∧ (t.inst j).life = .uninitialized))) := by
  by_cases hj : target c = some j
  case neg => exact .inr ⟨by rw [h.inst_ne hj], .inl (by rw [h.inst_ne hj])⟩
  cases h with
  | refuse | dlcEncUndefined | frameEncUndefined | writeUndefined => simp
  | answer | frameDec => simp [State.inst_withPort]
  | write => cases hj; simp [InstState.pushTx]
  | read =>
    cases hj
    right
    rw [State.inst_withPort, State.inst_setInst_self]
    exact ⟨rfl, .inl rfl⟩
  | filterProg => cases hj; simp
  | filterIndex i xtd hr =>
    cases hj
    exact .inl ⟨s, _, _, rfl, .inl ⟨⟨xtd, rfl⟩, rfl, rfl⟩, rfl, .inr ⟨Instr.noConfusion, hr⟩⟩
  | deinit i hr => cases hj; simp [State.released, hr]
  | init i tm hl =>
    cases hj
    obtain hf | ⟨hran, hf⟩ := configure_finish_ends (s := s) tm (.inl ⟨rfl, hl⟩) (bringUp_params s j)
      (bringUp_countP_isReport s j)
    · exact .inl hf
    · rw [State.inst_bringUp_self] at hf
      exact .inr ⟨hf, .inr (.inl ⟨rfl, hl, hran⟩)⟩
  | setBitTiming i tm hr =>
    cases hj
    obtain hf | ⟨hran, hf⟩ := configure_finish_ends (s := s) tm (.inr ⟨rfl, hr⟩) rfl rfl
    · exact .inl hf
    · exact .inr ⟨hf, .inl (hran.trans hr.symm)⟩

/-- A fatal fault stops the host and the bus agent of its instance (60_exceptions.md R306, 45_bus_agent.md R276). -/
theorem raiseFatal_hostStop? (u : State) (j : InstId) (kind : FatalKind) (code : Word) :
    (u.raiseFatal j kind code).hostStop? = some .hostHalted := by
  cases j <;> simp [State.hostStop?, State.raiseFatal, State.setInst, State.hook]

theorem busTx_of_not_running (hr : (s.inst i).life ≠ .running) : busTx i s = s := by
  simp [busTx, (s.not_running_iff i).mpr hr]

/-- Settles O46: a command that changes the fatal record ends in a fatal fault, which sets the record, adds one report
and halts the instance. -/
theorem fatalFaultHaltsAndReports : Obligations.FatalFaultHaltsAndReports := by
  intro c s t j h hne
  obtain ⟨u, kind, code, rfl, hsource, hreports, -⟩ | ⟨hfatal, -⟩ := (effect_of_exec h).life_cases j
  case inr => exact absurd hfatal hne
  have hr : ((u.raiseFatal j kind code).inst j).life ≠ .running := by simp
  refine ⟨kind, code, by simp, by simp, hsource, ⟨u.hooks, by simp, hreports⟩, fun x rest => ?_,
    busTx_of_not_running hr, fun bf => busRx_of_not_running hr⟩
  exact step_of_host_stopped rfl (raiseFatal_hostStop? u j kind code)

/-- Settles O50: a command that ends in a fatal fault halts the instance, and is one of the three that raise it; any
other changes a life by bringing the instance up or releasing it. -/
theorem lifecycleFollowsTheTable : Obligations.LifecycleFollowsTheTable := by
  intro c s t j h
  obtain ⟨u, kind, code, rfl, hsource, -, hlife⟩ | ⟨-, hkeep | ⟨rfl, hl, hran⟩ | ⟨rfl, hr, hl⟩⟩ :=
    (effect_of_exec h).life_cases j
  case inl =>
    have hhalted : ((u.raiseFatal j kind code).inst j).life = .halted := by simp
    obtain ⟨hinit, hl⟩ | ⟨hne, hr⟩ := hlife
    · exact .inr (.inl ⟨hl, hinit, .inr hhalted⟩)
    · obtain ⟨hprog, -⟩ | ⟨hinit | hset, -⟩ := hsource
      · exact .inr (.inr (.inr (.inl ⟨hr, hprog, hhalted⟩)))
      · exact absurd hinit hne
      · exact .inr (.inr (.inl ⟨hr, hset, hhalted⟩))
  case inr.inl => exact .inl hkeep
  case inr.inr.inl => exact .inr (.inl ⟨hl, rfl, .inl hran⟩)
  case inr.inr.inr => exact .inr (.inr (.inr (.inr ⟨hr, rfl, hl⟩)))

end Sys2Proof.Machine
end

section
/-! Runs of turns (10_state.md R37, 20_memory.md R64, 70_reset_and_hazards.md R338): what a bus turn keeps of what the
host sees, for one step and for any number of steps. -/

namespace Sys2Proof.Machine

open Sys2Proof.Claims

variable {s t u : State} {i : InstId} {bf : BusFrame}

/-! ### What a turn of the bus keeps -/

/-- Nothing a host could notice but room in a transmit queue: the ports, the recorded outcomes and each instance's life
stay, and no transmit queue grows. -/
structure State.OnlyDrains (s t : State) : Prop where
  port : t.port = s.port
  undef : t.undef = s.undef
  refused : t.refused = s.refused
  fatal : ∀ i, (t.inst i).fatal = (s.inst i).fatal
  life : ∀ i, (t.inst i).life = (s.inst i).life
  txq : ∀ i, (t.inst i).txq.length ≤ (s.inst i).txq.length

theorem State.OnlyDrains.refl (s : State) : s.OnlyDrains s :=
  ⟨rfl, rfl, rfl, fun _ => rfl, fun _ => rfl, fun _ => Nat.le_refl _⟩

theorem State.OnlyDrains.trans (h : s.OnlyDrains t) (h' : t.OnlyDrains u) : s.OnlyDrains u where
  port := h'.port.trans h.port
  undef := h'.undef.trans h.undef
  refused := h'.refused.trans h.refused
  fatal i := (h'.fatal i).trans (h.fatal i)
  life i := (h'.life i).trans (h.life i)
  txq i := (h'.txq i).trans (h.txq i)

theorem State.OnlyDrains.hostStop? (h : s.OnlyDrains t) : t.hostStop? = s.hostStop? := by
  have h0 : t.inst0.fatal = s.inst0.fatal := h.fatal .i0
  have h1 : t.inst1.fatal = s.inst1.fatal := h.fatal .i1
  simp only [State.hostStop?, h0, h1, h.undef, h.refused]

/-- An instance whose record keeps its life and its fatal record, and whose transmit queue does not grow. -/
theorem onlyDrains_setInst {r : InstState} (hf : r.fatal = (s.inst i).fatal) (hl : r.life = (s.inst i).life)
    (hq : r.txq.length ≤ (s.inst i).txq.length) : s.OnlyDrains (s.setInst i r) where
  port := s.setInst_port i r
  undef := s.setInst_undef i r
  refused := s.setInst_refused i r
  fatal j := by
    by_cases h : j = i
    · rw [h, State.inst_setInst_self, hf]
    · rw [State.inst_setInst_ne _ _ _ _ h]
  life j := by
    by_cases h : j = i
    · rw [h, State.inst_setInst_self, hl]
    · rw [State.inst_setInst_ne _ _ _ _ h]
  txq j := by
    by_cases h : j = i
    · rwa [h, State.inst_setInst_self]
    · rw [State.inst_setInst_ne _ _ _ _ h]

theorem onlyDrains_beginTurn (rest : List Turn) : s.OnlyDrains (s.beginTurn rest) := by
  have hinst := fun i => s.beginTurn_inst i rest
  refine ⟨rfl, rfl, rfl, fun i => ?_, fun i => ?_, fun i => ?_⟩ <;> obtain ⟨a, b, h, -⟩ := hinst i <;> rw [h]

theorem onlyDrains_withEmitted (out : List (InstId × BusFrame)) : s.OnlyDrains { s with emitted := out } :=
  ⟨rfl, rfl, rfl, fun i => by cases i <;> rfl, fun i => by cases i <;> rfl, fun i => by cases i <;> exact Nat.le_refl _⟩

theorem onlyDrains_busTx : s.OnlyDrains (busTx i s) := by
  obtain ⟨q, v, out, h, hq, -⟩ := busTx_frame i s
  rw [h]
  refine (onlyDrains_setInst (i := i) (r := { s.inst i with txq := q, tef := v }) rfl rfl ?_).trans
    (onlyDrains_withEmitted out)
  obtain rfl | rfl := hq
  · exact Nat.le_refl _
  · exact List.length_tail ▸ Nat.sub_le _ 1

theorem onlyDrains_busRx : s.OnlyDrains (busRx i bf s) := by
  obtain ⟨q, h, -⟩ := busRx_frame i bf s
  rw [h]
  exact onlyDrains_setInst rfl rfl (Nat.le_refl _)

/-- A step that is no host turn only drains transmit queues. -/
theorem step_onlyDrains (h : step s = .next t) (hn : ¬ ∃ c rest, s.agenda = .host c :: rest) : s.OnlyDrains t := by
  obtain ⟨-, rfl⟩ | ⟨i, rest, -, rfl⟩ | ⟨i, bf, rest, -, rfl⟩ | ⟨c, rest, _, ha, -⟩ := step_next h
  · exact .refl _
  · exact (onlyDrains_beginTurn rest).trans onlyDrains_busTx
  · exact (onlyDrains_beginTurn rest).trans onlyDrains_busRx
  · exact absurd ⟨c, rest, ha⟩ hn

/-- A host turn is taken only while no stop is recorded. -/
theorem hostStop?_of_host_step (h : step s = .next t) (hh : ∃ c rest, s.agenda = .host c :: rest) :
    s.hostStop? = none := by
  obtain ⟨c, rest, ha⟩ := hh
  cases hs : s.hostStop? with
  | none => rfl
  | some f => simp [step_of_host_stopped ha hs] at h

/-- Settles O47: a recorded outcome stops the host, and what is not a host turn keeps it. -/
theorem stickyOutcomesStay : Obligations.StickyOutcomesStay := by
  refine ⟨⟨rfl, rfl⟩, fun s t h => ?_⟩
  by_cases hh : ∃ c rest, s.agenda = .host c :: rest
  · obtain ⟨h0, h1, hundef, hrefused⟩ := s.hostStop?_eq_none.mp (hostStop?_of_host_step h hh)
    refine ⟨fun hu => ?_, fun hr => ?_, fun i f hf => ?_⟩
    · simp [hundef] at hu
    · simp [hrefused] at hr
    · cases i <;> simp [h0, h1] at hf
  · have hd := step_onlyDrains h hh
    exact ⟨hd.undef.trans, hd.refused.trans, fun i f hf => ⟨(hd.fatal i).trans hf, hd.life i⟩⟩

/-! ### Runs -/

/-- A run begins with a step. -/
theorem run_succ_of_step {n : Nat} (h : step s = .next t) : core.run (n + 1) s = core.run n t := by
  have hc : core.step s = .next t := h
  simp only [Host.Core.run, hc]

theorem busTx_agenda : (busTx i s).agenda = s.agenda := by
  obtain ⟨q, v, out, h, -⟩ := busTx_frame i s
  simp [h]

theorem busRx_agenda : (busRx i bf s).agenda = s.agenda := by
  obtain ⟨q, h, -⟩ := busRx_frame i bf s
  simp [h]

/-- A step takes the next turn off the agenda, when it is a bus turn or there is none. -/
theorem step_of_bus_agenda (h : ∀ x ∈ s.agenda.head?, IsBusTurn x) :
    ∃ t, step s = .next t ∧ s.OnlyDrains t ∧ t.agenda = s.agenda.tail := by
  have hn : ¬ ∃ c rest, s.agenda = .host c :: rest := by
    rintro ⟨c, rest, ha⟩
    exact h (.host c) (by simp [ha])
  obtain ⟨t, ht⟩ | ⟨c, rest, f, ha, -⟩ := step_outcome s
  case inr => exact absurd ⟨c, rest, ha⟩ hn
  refine ⟨t, ht, step_onlyDrains ht hn, ?_⟩
  obtain ⟨ha, rfl⟩ | ⟨i, rest, ha, rfl⟩ | ⟨i, bf, rest, ha, rfl⟩ | ⟨c, rest, _, ha, -⟩ := step_next ht
  · simp [ha]
  · simp [ha, busTx_agenda]
  · simp [ha, busRx_agenda]
  · exact absurd ⟨c, rest, ha⟩ hn

/-- A run of bus turns only drains transmit queues: each turn does, by induction on their number. -/
theorem run_onlyDrains (n : Nat) (s : State) (hbus : ∀ x ∈ s.agenda.take n, IsBusTurn x)
    (h : core.run n s = .next t) : s.OnlyDrains t := by
  induction n generalizing s with
  | zero =>
    cases h
    exact .refl _
  | succ n ih =>
    have hhead : ∀ x ∈ s.agenda.head?, IsBusTurn x := by
      intro x hx
      obtain ⟨rest, ha⟩ := List.head?_eq_some_iff.mp hx
      exact hbus x (by simp [ha])
    obtain ⟨u, hu, hd, ha⟩ := step_of_bus_agenda hhead
    rw [run_succ_of_step hu] at h
    refine hd.trans (ih u (fun x hx => hbus x ?_) h)
    rw [ha] at hx
    cases hs : s.agenda with
    | nil => simp [hs] at hx
    | cons y rest => simp [hs] at hx ⊢; exact .inr hx

/-- Settles O37: the ports, the stop and the lives are among what draining keeps. -/
theorem busTurnsOnlyLowerTheFillLevel : Obligations.BusTurnsOnlyLowerTheFillLevel := by
  intro n s t hbus h
  have hd := run_onlyDrains n s hbus h
  exact ⟨hd.port, hd.hostStop?, fun i => ⟨hd.life i, hd.txq i⟩⟩

/-! ### BUS_TX (45_bus_agent.md R270, R276) -/

section
variable {e : TxElement} {rest : List TxElement}

theorem busTx_of_empty (hq : (s.inst i).txq = []) : busTx i s = s := by
  unfold busTx
  rw [hq]
  split <;> rfl

/-- The head leaves the queue, is logged and goes out. -/
theorem busTx_of_cons (hr : (s.inst i).life = .running) (hq : (s.inst i).txq = e :: rest) : busTx i s
    = { s.setInst i (InstState.logEvent s.params.layout e { s.inst i with txq := rest }) with
        emitted := s.emitted ++ [(i, e.onBus s.params.layout)] } := by
  simp only [busTx, (s.running_iff i).mpr hr, if_true, hq]
  rfl

/-- Logging touches the TX event FIFO only. -/
theorem logEvent_frame (L : Layout) (e : TxElement) (r : InstState) : ∃ v, r.logEvent L e = { r with tef := v } := by
  unfold InstState.logEvent
  split <;> exact ⟨_, rfl⟩

/-- The emitted frame in the claims' terms: `classic_bytes` of the length code, by the row it stands in. -/
theorem onBus_eq (L : Layout) {n : Nat} (hrow : (n, e.t1.extractLsb' 16 4) ∈ dlcRows) : e.onBus L
    = { ident := if e.t0.getLsbD 30 then .ext (e.t0.extractLsb' 0 29) else .std (e.t0.extractLsb' 18 11)
        rtr := e.t0.getLsbD 29
        dlc := e.t1.extractLsb' 16 4
        data := if e.t0.getLsbD 29 then [] else e.data.take (min e.data.length (min n 8)) } := by
  have hdata : e.data.take (classicBytes (e.t1.extractLsb' 16 4)) = e.data.take (min e.data.length (min n 8)) := by
    rw [classicBytes, dlcToBytes_of_mem_dlcRows _ hrow, Nat.min_comm e.data.length, ← List.take_eq_take_min]
  rw [← hdata]
  cases L
  rfl

theorem wordEfc_eq_getLsbD (L : Layout) (w : Word) : wordEfc L w = w.getLsbD 23 := by cases L; rfl

/-- Settles O33: the emitted frame is the head's, and its event is logged where it asks for one and there is room. -/
theorem busTxSendsTheHead : Obligations.BusTxSendsTheHead := by
  intro i s e rest hr hq n hrow
  simp only [← onBus_eq s.params.layout hrow, busTx_of_cons hr hq, ← wordEfc_eq_getLsbD s.params.layout]
  refine ⟨fun ⟨hefc, hroom⟩ => ?_, fun h => ?_⟩
  · rw [logEvent_logged _ _ { s.inst i with txq := rest } hefc hroom]
  · rw [logEvent_discarded _ _ { s.inst i with txq := rest } h]

/-- Settles O35: both bus steps ask whether the instance is running before anything else. -/
theorem busStepsNeedARunningInstance : Obligations.BusStepsNeedARunningInstance :=
  fun _ _ => ⟨fun hr => ⟨busTx_of_not_running hr, fun _ => busRx_of_not_running hr⟩, busTx_of_empty⟩

/-- A scheduled transmission takes the head of the queue. -/
theorem step_of_busTx_cons {turns : List Turn} (ha : s.agenda = .busTx i :: turns) (hr : (s.inst i).life = .running)
    (hq : (s.inst i).txq = e :: rest) : ∃ t, step s = .next t ∧ t.params = s.params ∧ t.agenda = turns
      ∧ (t.inst i).life = .running ∧ (t.inst i).txq = rest
      ∧ t.emitted = s.emitted ++ [(i, e.onBus s.params.layout)] := by
  obtain ⟨a, b, hinst, -⟩ := s.beginTurn_inst i turns
  have hstep : step s = .next (busTx i (s.beginTurn turns)) := by rw [step, ha]; rfl
  rw [busTx_of_cons (by rw [hinst, hr]) (by rw [hinst, hq])] at hstep
  obtain ⟨v, hv⟩ := logEvent_frame (s.beginTurn turns).params.layout e { (s.beginTurn turns).inst i with txq := rest }
  rw [hv] at hstep
  refine ⟨_, hstep, ?_, ?_, ?_, ?_, rfl⟩
  · simp
  · simp
  · cases i <;> exact hr
  · cases i <;> rfl

end

/-- Settles O36, by induction on the number of transmissions: each takes the head of what is queued. -/
theorem framesLeaveInSubmissionOrder : Obligations.FramesLeaveInSubmissionOrder := by
  intro i n
  induction n with
  | zero =>
    intro s rest hr _ ha
    exact ⟨s, rfl, by simp, by simp, hr, by simpa using ha⟩
  | succ n ih =>
    intro s rest hr hn ha
    cases hq : (s.inst i).txq with
    | nil => simp [hq] at hn
    | cons e es =>
      obtain ⟨u, hu, hparams, hagenda, hlife, htxq, hemitted⟩ :=
        step_of_busTx_cons (by rw [ha, List.replicate_succ, List.cons_append]) hr hq
      obtain ⟨t, ht, hout, hleft, hran, hrest⟩ := ih u rest hlife (by simpa [hq, htxq] using hn) hagenda
      refine ⟨t, (run_succ_of_step hu).trans ht, ?_, ?_, hran, hrest⟩
      · rw [hout, hemitted, hparams, htxq, List.take_succ_cons, List.map_cons, List.append_assoc, List.singleton_append]
      · rw [hleft, htxq, List.drop_succ_cons]

end Sys2Proof.Machine
end

section
/-! The invariant (Sys2Proof/Safety.lean): what each change of an instance record keeps of the record's own invariant,
and what the state keeps when one record changes together with the clock count and the hooks. -/

namespace Sys2Proof.Machine

variable {s t : State} {c : Instr} {i : InstId} {r : InstState} {p : Params}

/-! ### The invariant of a record -/

theorem InstState.Inv.pushTx (h : r.Inv p) {e : TxElement} (he : e.Encoded p.layout) (hr : r.life = .running)
    (hq : r.txq.length ≠ 32) : (r.pushTx e).Inv p :=
  { h with
    txqFill := by
      have := h.txqFill
      simp only [InstState.pushTx, push, List.length_append, List.length_singleton]
      omega
    txqForm := fun x hx => (List.mem_append.mp hx).elim (h.txqForm x) fun hx => List.mem_singleton.mp hx ▸ he
    idle := fun hl => absurd (hr.symm.trans hl) (by decide) }

theorem InstState.Inv.popRx (h : r.Inv p) : r.popRx.Inv p :=
  { h with
    rxf0Fill := (List.length_tail ▸ Nat.sub_le _ 1 : r.rxf0.tail.length ≤ r.rxf0.length).trans h.rxf0Fill
    rxf0Bytes := fun e he => h.rxf0Bytes e (List.mem_of_mem_tail he)
    rxf0Data := fun e he => h.rxf0Data e (List.mem_of_mem_tail he)
    idle := fun hl => by
      obtain ⟨htxq, htef, hrxf0⟩ := h.idle hl
      exact ⟨htxq, htef, by simp [InstState.popRx, hrxf0]⟩ }

/-- The filter tables are free. -/
theorem InstState.Inv.withTables (h : r.Inv p) (sft : Vector StdFilter 128) (xft : Vector ExtFilter 64) :
    ({ r with sft := sft, xft := xft } : InstState).Inv p := { h with }

/-- A halted record may have any timing and configuration. -/
theorem InstState.Inv.halt (h : r.Inv p) (tm : Timing) (cfg : Cfg) (f : FatalRecord) :
    ({ r with timing := tm, cfg := cfg, fatal := some f, life := .halted } : InstState).Inv p :=
  { h with
    life := .inr (.inr rfl)
    fatal := by simp
    idle := nofun
    cfg := nofun
    gfp := nofun
    timing := nofun }

/-- A configured record: the fixed configuration and policy, the timing that was validated, and each queue emptied or
kept. -/
theorem InstState.Inv.configured (h : (s.inst i).Inv s.params) (hl : (s.inst i).life ≠ .halted) {tm : Timing}
    (hv : validTiming s.params.timingRange tm = true) : (s.configuredInst i tm).Inv s.params := by
  obtain ⟨txq, rxf0, tef, heq, hq, hr, ht, -⟩ := configuredInst_eq s i tm
  rw [heq]
  have hfatal : ¬ (s.inst i).fatal.isSome = true := mt h.fatal.mp hl
  exact
    { life := .inr (.inl rfl)
      fatal := ⟨fun hf => absurd hf hfatal, nofun⟩
      xidam := h.xidam
      txqFill := by obtain rfl | rfl := hq; exacts [Nat.zero_le _, h.txqFill]
      tefFill := by obtain rfl | rfl := ht; exacts [Nat.zero_le _, h.tefFill]
      rxf0Fill := by obtain rfl | rfl := hr; exacts [Nat.zero_le _, h.rxf0Fill]
      txqForm := by obtain rfl | rfl := hq; exacts [nofun, h.txqForm]
      rxf0Bytes := by obtain rfl | rfl := hr; exacts [nofun, h.rxf0Bytes]
      rxf0Data := by obtain rfl | rfl := hr; exacts [nofun, h.rxf0Data]
      idle := nofun
      cfg := fun _ => rfl
      gfp := fun _ => rfl
      timing := fun _ => hv
      recWidth := h.recWidth
      tecWidth := h.tecWidth }

/-- The record INIT brings up before its configuration. -/
theorem InstState.Inv.emptied (h : r.Inv p) (sft : Vector StdFilter 128) (xft : Vector ExtFilter 64) :
    ({ r with txq := [], rxf0 := [], tef := [], sft := sft, xft := xft, xidam := 0x1FFFFFFF } : InstState).Inv p :=
  { h with
    xidam := rfl
    txqFill := Nat.zero_le _
    tefFill := Nat.zero_le _
    rxf0Fill := Nat.zero_le _
    txqForm := nofun
    rxf0Bytes := nofun
    rxf0Data := nofun
    idle := fun _ => ⟨rfl, rfl, rfl⟩ }

/-- The record DEINIT leaves of a running instance. -/
theorem InstState.Inv.released (h : (s.inst i).Inv s.params) (hr : (s.inst i).life = .running) :
    (s.released i).Inv s.params := by
  have hfatal : ¬ (s.inst i).fatal.isSome = true := mt h.fatal.mp (by simp [hr])
  exact
    { h with
      life := .inl rfl
      fatal := ⟨fun hf => absurd hf hfatal, nofun⟩
      txqFill := Nat.zero_le _
      tefFill := Nat.zero_le _
      rxf0Fill := Nat.zero_le _
      txqForm := nofun
      rxf0Bytes := nofun
      rxf0Data := nofun
      idle := fun _ => ⟨rfl, rfl, rfl⟩
      cfg := nofun
      gfp := nofun
      timing := nofun }

/-- The raw counters take values of their width (10_state.md R34). -/
theorem InstState.Inv.withCounters (h : r.Inv p) {a b : Nat} (ha : a < 2 ^ p.hwCounterWidth)
    (hb : b < 2 ^ p.hwCounterWidth) : ({ r with recRaw := a, tecRaw := b } : InstState).Inv p :=
  { h with recWidth := ha, tecWidth := hb }

/-- A transmission: the queue loses its head, the event FIFO keeps within its depth, and neither changes where
the instance is not running. -/
theorem InstState.Inv.sent (h : r.Inv p) {q : List TxElement} {v : List TxEvent} (hq : q = r.txq ∨ q = r.txq.tail)
    (hv : v.length ≤ max 32 r.tef.length) (hn : r.life ≠ .running → q = r.txq ∧ v = r.tef) :
    ({ r with txq := q, tef := v } : InstState).Inv p := by
  have hmem : ∀ e ∈ q, e ∈ r.txq := by
    obtain rfl | rfl := hq
    exacts [fun _ he => he, fun _ he => List.mem_of_mem_tail he]
  have hlen : q.length ≤ r.txq.length := by
    obtain rfl | rfl := hq
    exacts [Nat.le_refl _, List.length_tail ▸ Nat.sub_le _ 1]
  exact
    { h with
      txqFill := hlen.trans h.txqFill
      tefFill := hv.trans (Nat.max_le.mpr ⟨Nat.le_refl _, h.tefFill⟩)
      txqForm := fun e he => h.txqForm e (hmem e he)
      idle := fun hl => by
        have hl : r.life = .uninitialized := hl
        obtain ⟨rfl, rfl⟩ := hn (by simp [hl])
        exact h.idle hl }

/-- The entry an arrival brings has the remote tag of the frame. -/
theorem wordRtr_entryOf (s : State) (v : Verdict) (bf : BusFrame) :
    wordRtr s.params.layout (s.entryOf v bf).r0 = bf.rtr := wordRtr_idWord _ _ _ _

/-- The configured policy stores no remote frame (43_filter_table.md R213). -/
theorem not_remote_of_stored (hg : r.gfp = gfpConst) {bf : BusFrame} (h : (r.judge bf.ident bf.rtr).stored = true) :
    bf.rtr = false := by
  cases hrtr : bf.rtr with
  | false => rfl
  | true =>
    have hrej : rejectsRemote r.gfp (identXtd bf.ident) = true := by
      rw [hg]
      cases bf.ident <;> rfl
    simp [hrtr, judge_of_remote_rejected hrej, Verdict.stored] at h

/-- An arrival: what it adds to receive FIFO 0 is the entry of a data frame, padded to 64 bytes. -/
theorem InstState.Inv.received (h : (s.inst i).Inv s.params) {bf : BusFrame} {q : List RxEntry}
    (hlen : q.length ≤ max 64 (s.inst i).rxf0.length) (hn : (s.inst i).life ≠ .running → q = (s.inst i).rxf0)
    (hq : ∀ e ∈ q, e ∈ (s.inst i).rxf0 ∨ (((s.inst i).judge bf.ident bf.rtr).stored = true ∧ bf.legal = true
      ∧ e = s.entryOf ((s.inst i).judge bf.ident bf.rtr) bf)) :
    ({ s.inst i with rxf0 := q } : InstState).Inv s.params := by
  by_cases hr : (s.inst i).life = .running
  case neg =>
    obtain rfl := hn hr
    exact h
  exact
    { h with
      rxf0Fill := hlen.trans (Nat.max_le.mpr ⟨Nat.le_refl _, h.rxf0Fill⟩)
      rxf0Bytes := fun e he => by
        obtain hold | ⟨-, hlegal, rfl⟩ := hq e he
        · exact h.rxf0Bytes e hold
        · obtain ⟨pad, hpad, hdata⟩ := entryOf_data s _ ((data_length_le_of_legal hlegal).trans (by decide))
          rw [hdata, hpad]
      rxf0Data := fun e he => by
        obtain hold | ⟨hstored, -, rfl⟩ := hq e he
        · exact h.rxf0Data e hold
        · rw [wordRtr_entryOf, not_remote_of_stored (h.gfp hr) hstored]
      idle := fun hl => absurd (hr.symm.trans hl) (by decide) }

/-! ### The invariant of the state -/

theorem State.Inv.inst (hs : s.Inv) (i : InstId) : (s.inst i).Inv s.params := by
  cases i
  exacts [hs.inst0, hs.inst1]

theorem State.Inv.refuse (hs : s.Inv) (why : RefuseReason) : (s.refuse why).Inv := { hs with refused := rfl }

theorem State.Inv.raiseUndefined (hs : s.Inv) (n : Nat) : (s.raiseUndefined n).Inv := { hs with undef := rfl }

theorem State.Inv.withPort (hs : s.Inv) {q : Port} (hq : q.status.toNat ≤ 5) : { s with port := q }.Inv :=
  { hs with status := hq }

theorem State.Inv.present (hs : s.Inv) (x : Issue) : (s.present x).Inv := { hs with }

theorem State.Inv.beginTurn (hs : s.Inv) (rest : List Turn) : (s.beginTurn rest).Inv :=
  have hwidth (n : Nat) : n % 2 ^ s.params.hwCounterWidth < 2 ^ s.params.hwCounterWidth :=
    Nat.mod_lt _ (Nat.two_pow_pos _)
  { hs with
    inst0 := hs.inst0.withCounters (hwidth _) (hwidth _)
    inst1 := hs.inst1.withCounters (hwidth _) (hwidth _) }

/-- One record changes, with the clock count, the clock and the reports that go with its life. -/
theorem State.Inv.change (hs : s.Inv) (i : InstId) (hb : s.BlockUpdate t) (hne : ∀ j, j ≠ i → t.inst j = s.inst j)
    (hi : (t.inst i).Inv s.params) (hclk : t.clkRef + (s.inst i).live = s.clkRef + (t.inst i).live)
    (hon : t.clkOn = decide (t.clkRef ≠ 0))
    (hrep : t.hooks.countP HookEvent.isReport + (s.inst i).haltedCount
      = s.hooks.countP HookEvent.isReport + (t.inst i).haltedCount)
    (hst : t.port.status.toNat ≤ 5) : t.Inv := by
  have hparams : t.params = s.params := hb ▸ rfl
  have hclkRef := hs.clkRef
  have hreports := hs.reports
  have hall : ∀ j, (t.inst j).Inv t.params := by
    intro j
    rw [hparams]
    by_cases hj : j = i
    · exact hj ▸ hi
    · exact hne j hj ▸ hs.inst j
  have hundef : t.undef = t.undefLength.isSome := by
    rw [hb]
    exact hs.undef
  have hrefused : t.refused = t.refuseReason.isSome := by
    rw [hb]
    exact hs.refused
  refine ⟨hall .i0, hall .i1, ?_, hon, ?_, hst, hundef, hrefused⟩
  all_goals
    cases i
    · have h1 : t.inst1 = s.inst1 := hne .i1 (by decide)
      simp only [State.inst_i0] at hclk hrep
      rw [h1]
      omega
    · have h0 : t.inst0 = s.inst0 := hne .i0 (by decide)
      simp only [State.inst_i1] at hclk hrep
      rw [h0]
      omega

theorem InstState.live_congr {r r' : InstState} (h : r.life = r'.life) : r.live = r'.live := by
  rw [InstState.live, InstState.live, h]

theorem InstState.haltedCount_congr {r r' : InstState} (h : r.life = r'.life) : r.haltedCount = r'.haltedCount := by
  rw [InstState.haltedCount, InstState.haltedCount, h]

/-- One record changes and keeps its life. -/
theorem State.Inv.setInst (hs : s.Inv) (hr : r.Inv s.params) (hl : r.life = (s.inst i).life) : (s.setInst i r).Inv := by
  refine hs.change i (blockUpdate_setInst i r) (fun j => s.inst_setInst_ne i j r) ?_ ?_ ?_ ?_ ?_
  · rwa [State.inst_setInst_self]
  · rw [State.inst_setInst_self, State.setInst_clkRef, InstState.live_congr hl]
  · rw [State.setInst_clkOn, State.setInst_clkRef, hs.clkOn]
  · rw [State.inst_setInst_self, State.setInst_hooks, InstState.haltedCount_congr hl]
  · rw [State.setInst_port]
    exact hs.status

/-! ### Bus steps -/

theorem State.Inv.busTx (hs : s.Inv) (i : InstId) : (busTx i s).Inv := by
  obtain ⟨q, v, out, h, hq, hv, hn⟩ := busTx_frame i s
  rw [h]
  exact { hs.setInst (r := { s.inst i with txq := q, tef := v }) ((hs.inst i).sent hq hv hn) rfl with }

theorem State.Inv.busRx (hs : s.Inv) (i : InstId) (bf : BusFrame) : (busRx i bf s).Inv := by
  obtain ⟨q, h, hlen, hn, hq⟩ := busRx_frame i bf s
  rw [h]
  exact hs.setInst ((hs.inst i).received hlen hn hq) rfl

/-! ### Commands -/

theorem bringUp_clkRef (s : State) (i : InstId) : (s.bringUp i).clkRef = s.clkRef + 1 := by cases i <;> rfl

theorem bringUp_clkOn (s : State) (i : InstId) : (s.bringUp i).clkOn = true := by cases i <;> rfl

theorem releaseClock_clkRef (s : State) : s.releaseClock.clkRef = s.clkRef - 1 := by
  unfold State.releaseClock
  split <;> rfl

/-- The clock goes off with the last initialized instance (44_controller_context.md R237). -/
theorem releaseClock_clkOn (s : State) : s.releaseClock.clkOn = (s.clkOn && decide (s.clkRef - 1 ≠ 0)) := by
  unfold State.releaseClock
  split <;> simp [*]

theorem releaseClock_countP_isReport (s : State) :
    s.releaseClock.hooks.countP HookEvent.isReport = s.hooks.countP HookEvent.isReport := by
  unfold State.releaseClock
  split <;> simp [HookEvent.isReport]

/-- An initialized instance counts. -/
theorem State.Inv.clkRef_ne_zero (hs : s.Inv) (hr : (s.inst i).life = .running) : s.clkRef ≠ 0 := by
  have hlive : (s.inst i).live = 1 := by simp [InstState.live, hr]
  have hsum := hs.clkRef
  cases i with
  | i0 =>
    rw [State.inst_i0] at hlive
    omega
  | i1 =>
    rw [State.inst_i1] at hlive
    omega


/-- How a configuration leaves its record, the clock and the reports: running or halted, with one report when halted. -/
theorem configure_finish_summary {u : State} (hi : (u.inst i).Inv u.params) (hl : (u.inst i).life ≠ .halted)
    (tm : Timing) : ((configure i tm u).finish.inst i).Inv u.params ∧ ((configure i tm u).finish.inst i).live = 1
      ∧ (configure i tm u).finish.hooks.countP HookEvent.isReport
        = u.hooks.countP HookEvent.isReport + ((configure i tm u).finish.inst i).haltedCount
      ∧ (configure i tm u).finish.clkRef = u.clkRef ∧ (configure i tm u).finish.clkOn = u.clkOn := by
  obtain h | ⟨-, h⟩ | ⟨hv, h⟩ := configure_cases i tm u
  · rw [h, State.raiseFatal_inst_self]
    exact ⟨hi.halt _ _ _, rfl, by simp [HookEvent.isReport, InstState.haltedCount], by simp, by simp⟩
  · rw [h, State.raiseFatal_inst_self, State.inst_setInst_self]
    exact ⟨hi.halt _ _ _, rfl, by simp [HookEvent.isReport, InstState.haltedCount], by simp, by simp⟩
  · obtain ⟨hran, -⟩ := u.configuredInst_life_fatal i tm
    rw [h, State.inst_done, State.inst_setInst_self]
    exact ⟨hi.configured hl hv, by simp [InstState.live, hran], by simp [InstState.haltedCount, hran], by simp, by simp⟩

/-- Every effect keeps the invariant. -/
theorem Effect.keeps_inv (hs : s.Inv) (h : Effect s c t) : t.Inv := by
  have hstatus : t.port.status.toNat ≤ 5 := by
    obtain hp | hp := h.port_eq_or_answers
    exacts [hp ▸ hs.status, hp.status]
  cases h with
  | refuse c why => exact hs.refuse why
  | dlcEncUndefined n | frameEncUndefined _ _ n | writeUndefined _ _ _ n => exact hs.raiseUndefined n
  | answer | frameDec => exact hs.withPort hstatus
  | write i _ _ e he hr hq => exact (hs.setInst ((hs.inst i).pushTx he hr hq) rfl).withPort hstatus
  | read i => exact (hs.setInst (hs.inst i).popRx rfl).withPort hstatus
  | filterProg i _ sft xft => exact (hs.setInst ((hs.inst i).withTables sft xft) rfl).withPort hstatus
  | filterIndex i xtd hr =>
    refine hs.change i (blockUpdate_raiseFatal i _ _) (fun j => s.raiseFatal_inst_ne i j _ _) ?_ ?_ ?_ ?_ hstatus
    · rw [State.raiseFatal_inst_self]
      exact (hs.inst i).halt _ _ _
    · simp [InstState.live, hr]
    · simp [hs.clkOn]
    · simp [HookEvent.isReport, InstState.haltedCount, hr]
  | init i tm hl =>
    have hup : ((s.bringUp i).inst i).Inv (s.bringUp i).params := by
      rw [State.inst_bringUp_self, bringUp_params]
      exact (hs.inst i).emptied _ _
    have hlife : ((s.bringUp i).inst i).life ≠ .halted := by simp [State.inst_bringUp_self, hl]
    obtain ⟨hi, hlive, hreports, hclkRef, hclkOn⟩ := configure_finish_summary hup hlife tm
    refine hs.change i ((blockUpdate_bringUp i).trans (blockUpdate_configure_finish i tm))
      (fun j hj => (configure_finish_inst_ne tm hj).trans (State.inst_bringUp_ne hj)) ?_ ?_ ?_ ?_ hstatus
    · rwa [← bringUp_params s i]
    · rw [hlive, hclkRef, bringUp_clkRef]
      simp [InstState.live, hl]
    · rw [hclkOn, hclkRef, bringUp_clkRef, bringUp_clkOn]
      simp
    · rw [hreports, bringUp_countP_isReport]
      simp [InstState.haltedCount, hl]
  | deinit i hr =>
    have hpos := hs.clkRef_ne_zero hr
    have hreleased : (s.released i).life = .uninitialized := rfl
    refine hs.change i (blockUpdate_release i) (fun j hj => ?_) ?_ ?_ ?_ ?_ hstatus
    · simp [State.inst_setInst_ne, hj]
    · simpa using (hs.inst i).released hr
    · have hcount : s.clkRef - 1 + 1 = s.clkRef := Nat.succ_pred hpos
      simpa [releaseClock_clkRef, InstState.live, hr, hreleased] using hcount
    · simp [releaseClock_clkRef, releaseClock_clkOn, hs.clkOn, hpos]
    · simp [releaseClock_countP_isReport, HookEvent.isReport, InstState.haltedCount, hr, hreleased]
  | setBitTiming i tm hr =>
    obtain ⟨hi, hlive, hreports, hclkRef, hclkOn⟩ := configure_finish_summary (hs.inst i) (by simp [hr]) tm
    refine hs.change i (blockUpdate_configure_finish i tm) (fun j => configure_finish_inst_ne tm) hi ?_ ?_ ?_ hstatus
    · rw [hlive, hclkRef]
      simp [InstState.live, hr]
    · rw [hclkOn, hclkRef, hs.clkOn]
    · rw [hreports]
      simp [InstState.haltedCount, hr]

/-- Settles O54: a turn's start and its presented command keep the invariant; so do both bus steps and every effect of a
command. -/
theorem stepKeepsTheInvariant : Obligations.StepKeepsTheInvariant := by
  intro s t hs h
  obtain ⟨-, rfl⟩ | ⟨i, rest, -, rfl⟩ | ⟨i, bf, rest, -, rfl⟩ | ⟨x, rest, u, -, -, hu, rfl⟩ := step_next h
  · exact hs
  · exact (hs.beginTurn rest).busTx i
  · exact (hs.beginTurn rest).busRx i bf
  · have hu : u.Inv := by
      obtain rfl | ⟨c, -, hc⟩ := hu
      · exact ((hs.beginTurn rest).present x).refuse _
      · exact (effect_of_exec hc).keeps_inv ((hs.beginTurn rest).present x)
    split
    · exact hu
    · exact { hu with }

end Sys2Proof.Machine
end

section
/-! The words of the layout (30_encoding.md R81 to R87, 20_memory.md R62): each is a union of placed fields, so a field
of it is the one placed there and nothing of the others. -/

namespace Sys2Proof

/-! ### Fields of a union of placed fields -/

@[simp] theorem field_or (v w : Word) (lo len : Nat) : field (v ||| w) lo len = field v lo len ||| field w lo len := by
  apply BitVec.eq_of_getLsbD_eq
  intro k hk
  simp [hk]

theorem field_placed_self {w : Nat} (v : BitVec w) (n : Nat) (h : n + w ≤ 32) : field (placed v n) n w = v := by
  apply BitVec.eq_of_getLsbD_eq
  intro k hk
  have hw : n + k < 32 := by omega
  simp [hk, hw]

/-- A field does not see what is placed above or below it. -/
theorem field_placed_disjoint {w : Nat} (v : BitVec w) (n lo len : Nat) (h : n + w ≤ lo ∨ lo + len ≤ n) :
    field (placed v n) lo len = 0#len := by
  apply BitVec.eq_of_getLsbD_eq
  intro k hk
  obtain h | h := h
  · have hv : v.getLsbD (lo + k - n) = false := BitVec.getLsbD_of_ge _ _ (by omega)
    simp [hv]
  · have hn : ¬ n ≤ lo + k := by omega
    simp [hn]

theorem field_flagBit_disjoint (b : Bool) (n lo len : Nat) (h : n < lo ∨ lo + len ≤ n) :
    field (flagBit b n) lo len = 0#len := by
  apply BitVec.eq_of_getLsbD_eq
  intro k hk
  have hn : lo + k ≠ n := by omega
  simp [hn]

/-- Words that agree in a field agree in its bits. -/
theorem getLsbD_eq_of_field_eq {v w : Word} {lo len k : Nat} (h : field v lo len = field w lo len) (hlo : lo ≤ k)
    (hk : k < lo + len) : v.getLsbD k = w.getLsbD k := by
  have hbit := congrArg (fun f : BitVec len => f.getLsbD (k - lo)) h
  have hlen : k - lo < len := by omega
  simpa [hlen, hlo] using hbit

/-- A narrower field at the same place is the low bits of the wider one. -/
theorem field_eq_field_field (v : Word) (lo : Nat) {len len' : Nat} (h : len' ≤ len) :
    field v lo len' = (field v lo len).setWidth len' := by
  apply BitVec.eq_of_getLsbD_eq
  intro k hk
  have hk' : k < len := by omega
  simp [hk, hk']

end Sys2Proof

namespace Sys2Proof.Machine

open Sys2Proof.Claims

/-! ### Filter words (R85, R86) -/

/-- The constant of a programmed standard slot is `SFT = 10` and `SFEC = 001`. -/
theorem stdWord_mask (fid fmask : BitVec 11) : stdWord .fdcanH7 (.mask fid fmask)
    = placed (0b10001 : BitVec 5) 27 ||| placed fid 16 ||| placed fmask 0 := rfl

theorem stdWord_fields (fid fmask : BitVec 11) : field (stdWord .fdcanH7 (.mask fid fmask)) 27 5 = 0b10001
    ∧ field (stdWord .fdcanH7 (.mask fid fmask)) 16 11 = fid
    ∧ field (stdWord .fdcanH7 (.mask fid fmask)) 11 5 = 0
    ∧ field (stdWord .fdcanH7 (.mask fid fmask)) 0 11 = fmask := by
  simp (disch := decide) only [stdWord_mask, field_or, field_placed_self, field_placed_disjoint, BitVec.or_zero,
    BitVec.zero_or]
  decide

/-- `SFEC` is part of `SFT` and `SFEC`. -/
theorem sfec_ne_zero {w : Word} (h : field w 27 5 = 0b10001) : field w 27 3 ≠ 0 := by
  rw [field_eq_field_field w 27 (by decide : 3 ≤ 5), h]
  decide

theorem stdOfWord_eq_mask_iff {w : Word} {fid fmask : BitVec 11} : stdOfWord .fdcanH7 w = some (.mask fid fmask)
    ↔ (field w 27 5 = 0b10001 ∧ field w 11 5 = 0) ∧ field w 16 11 = fid ∧ field w 0 11 = fmask := by
  simp only [stdOfWord]
  split
  next h =>
    simp only [Option.some.injEq, reduceCtorEq, false_iff]
    rintro ⟨⟨hcode, -⟩, -⟩
    exact sfec_ne_zero hcode h
  next =>
    split
    next h => simp [h]
    next h => exact iff_of_false nofun fun ⟨hcodes, _⟩ => h hcodes

theorem stdOfWord_eq_disabled_iff {w : Word} : stdOfWord .fdcanH7 w = some .disabled ↔ field w 27 3 = 0 := by
  simp only [stdOfWord]
  split
  next h => simp [h]
  next h => split <;> exact iff_of_false (by simp) h

/-- Settles O6: the four fields of a slot's word are its constant, its identifier, the unused bits and its mask, and
they cover the word. -/
theorem standardFilterWord : Obligations.StandardFilterWord := by
  intro w fid fmask
  refine ⟨by rw [← placed_zero fmask]; rfl, ?_, rfl, stdOfWord_eq_disabled_iff⟩
  obtain ⟨hcode, hid, hpad, hmask⟩ := stdWord_fields fid fmask
  rw [stdOfWord_eq_mask_iff]
  constructor
  · rintro ⟨⟨hcode', hpad'⟩, hid', hmask'⟩
    apply BitVec.eq_of_getLsbD_eq
    intro k hk
    obtain h | h | h | h : k < 11 ∨ (11 ≤ k ∧ k < 16) ∨ (16 ≤ k ∧ k < 27) ∨ 27 ≤ k := by omega
    · exact getLsbD_eq_of_field_eq (hmask'.trans hmask.symm) (Nat.zero_le k) (by omega)
    · exact getLsbD_eq_of_field_eq (hpad'.trans hpad.symm) h.1 h.2
    · exact getLsbD_eq_of_field_eq (hid'.trans hid.symm) h.1 h.2
    · exact getLsbD_eq_of_field_eq (hcode'.trans hcode.symm) h hk
  · rintro rfl
    exact ⟨⟨hcode, hpad⟩, hid, hmask⟩

/-! ### Extended filter words (R86) -/

/-- The words of a programmed extended slot: `EFEC = 001` above the identifier, `EFT = 10` above the mask. -/
theorem extWords_mask (fid fmask : BitVec 29) :
    extWord0 .fdcanH7 (.mask fid fmask) = placed (1 : BitVec 3) 29 ||| placed fid 0
      ∧ extWord1 .fdcanH7 (.mask fid fmask) = placed (0b100 : BitVec 3) 29 ||| placed fmask 0 := ⟨rfl, rfl⟩

/-- A three-bit code above 29 bits makes up a word. -/
theorem eq_placed_or_placed_iff {w : Word} {code : BitVec 3} {v : BitVec 29} :
    w = placed code 29 ||| placed v 0 ↔ field w 29 3 = code ∧ field w 0 29 = v := by
  have hfields : field (placed code 29 ||| placed v 0) 29 3 = code
      ∧ field (placed code 29 ||| placed v 0) 0 29 = v := by
    simp (disch := decide) only [field_or, field_placed_self, field_placed_disjoint, BitVec.or_zero, BitVec.zero_or,
      and_self]
  obtain ⟨hcode, hv⟩ := hfields
  constructor
  · rintro rfl
    exact ⟨hcode, hv⟩
  · rintro ⟨hcode', hv'⟩
    apply BitVec.eq_of_getLsbD_eq
    intro k hk
    obtain h | h := Nat.lt_or_ge k 29
    · exact getLsbD_eq_of_field_eq (hv'.trans hv.symm) (Nat.zero_le k) (by omega)
    · exact getLsbD_eq_of_field_eq (hcode'.trans hcode.symm) h hk

theorem extOfWords_eq_mask_iff {w0 w1 : Word} {fid fmask : BitVec 29} :
    extOfWords .fdcanH7 w0 w1 = some (.mask fid fmask)
      ↔ (field w0 29 3 = 1 ∧ field w1 29 3 = 0b100) ∧ field w0 0 29 = fid ∧ field w1 0 29 = fmask := by
  simp only [extOfWords]
  split
  next h => simp [h]
  next =>
    split
    next h => simp [h]
    next h => exact iff_of_false nofun fun ⟨hcodes, _⟩ => h hcodes

/-- Settles O7: each word of a slot is its code above its 29 bits. -/
theorem extendedFilterWords : Obligations.ExtendedFilterWords := by
  intro w0 w1 fid fmask
  obtain ⟨h0, h1⟩ := extWords_mask fid fmask
  refine ⟨by rw [← placed_zero fid]; rfl, by rw [← placed_zero fmask]; rfl, ?_, rfl, rfl⟩
  rw [extOfWords_eq_mask_iff, h0, h1, eq_placed_or_placed_iff, eq_placed_or_placed_iff, and_and_and_comm]

/-! ### Headers and the policy (R81 to R83, R87) -/

theorem wordEsi_idWord (L : Layout) (a : Ident) (rtr esi : Bool) : wordEsi L (idWord L a rtr esi) = esi := by
  cases L
  cases a <;> simp [wordEsi, idWord, identField]

theorem TxHeader.ofWords_t0_t1 (L : Layout) (h : TxHeader) : TxHeader.ofWords L (h.t0 L) (h.t1 L) = h := by
  have hident : wordIdent L (h.t0 L) = h.ident := wordIdent_idWord L _ _ _
  have hrtr : wordRtr L (h.t0 L) = h.rtr := wordRtr_idWord L _ _ _
  have hesi : wordEsi L (h.t0 L) = h.esi := wordEsi_idWord L _ _ _
  have hdlc := wordDlc_t1 L h
  cases L
  have hmm : field (h.t1 .fdcanH7) 24 8 = h.mm := by
    simp (disch := decide) only [TxHeader.t1, field_or, field_placed_self, field_placed_disjoint,
      field_flagBit_disjoint, BitVec.or_zero]
  have hbrs : (h.t1 .fdcanH7).getLsbD 20 = h.brs := by simp [TxHeader.t1]
  have hfdf : (h.t1 .fdcanH7).getLsbD 21 = h.fdf := by simp [TxHeader.t1]
  have hefc : wordEfc .fdcanH7 (h.t1 .fdcanH7) = h.efc := by simp [wordEfc, TxHeader.t1]
  simp only [TxHeader.ofWords, hident, hrtr, hesi, hdlc, hmm, hbrs, hfdf, hefc]

theorem RxHeader.ofWords_r0_r1 (L : Layout) (h : RxHeader) : RxHeader.ofWords L (h.r0 L) (h.r1 L) = h := by
  have hident : wordIdent L (h.r0 L) = h.ident := wordIdent_idWord L _ _ _
  have hrtr : wordRtr L (h.r0 L) = h.rtr := wordRtr_idWord L _ _ _
  have hesi : wordEsi L (h.r0 L) = h.esi := wordEsi_idWord L _ _ _
  cases L
  have hfields : field (h.r1 .fdcanH7) 16 4 = h.dlc ∧ field (h.r1 .fdcanH7) 24 7 = h.fidx
      ∧ field (h.r1 .fdcanH7) 0 16 = h.rxts := by
    simp (disch := decide) only [RxHeader.r1, field_or, field_placed_self, field_placed_disjoint,
      field_flagBit_disjoint, BitVec.or_zero, BitVec.zero_or, and_self]
  obtain ⟨hdlc, hfidx, hrxts⟩ := hfields
  have hbrs : (h.r1 .fdcanH7).getLsbD 20 = h.brs := by simp [RxHeader.r1]
  have hfdf : (h.r1 .fdcanH7).getLsbD 21 = h.fdf := by simp [RxHeader.r1]
  have hanmf : (h.r1 .fdcanH7).getLsbD 31 = h.anmf := by simp [RxHeader.r1]
  simp only [RxHeader.ofWords, wordDlc, hident, hrtr, hesi, hdlc, hfidx, hrxts, hbrs, hfdf, hanmf]

theorem nonMatchOf_nonMatchCode (a : NonMatch) : nonMatchOf (nonMatchCode a) = a := by cases a <;> rfl

theorem gfpOfWord_gfcWord (L : Layout) (g : Gfp) : gfpOfWord L (gfcWord L g) = g := by
  cases L
  have hfields : field (gfcWord .fdcanH7 g) 4 2 = nonMatchCode g.anfs
      ∧ field (gfcWord .fdcanH7 g) 2 2 = nonMatchCode g.anfe := by
    simp (disch := decide) only [gfcWord, field_or, field_placed_self, field_placed_disjoint,
      field_flagBit_disjoint, BitVec.or_zero, BitVec.zero_or, and_self]
  obtain ⟨hanfs, hanfe⟩ := hfields
  have hrrfs : (gfcWord .fdcanH7 g).getLsbD 1 = g.rrfs := by simp [gfcWord]
  have hrrfe : (gfcWord .fdcanH7 g).getLsbD 0 = g.rrfe := by simp [gfcWord]
  simp only [gfpOfWord, hanfs, hanfe, hrrfs, hrrfe, nonMatchOf_nonMatchCode]

/-- Settles O8: each field stands alone in its bits of the words. -/
theorem headerAndPolicyWordsRoundTrip : Obligations.HeaderAndPolicyWordsRoundTrip :=
  ⟨TxHeader.ofWords_t0_t1, RxHeader.ofWords_r0_r1, gfpOfWord_gfcWord, rfl⟩

/-! ### Data words (20_memory.md R62) -/

/-- The four bytes of a data word. -/
theorem field_dataWord (data : List Byte) (w : Nat) {b : Nat} (hb : b < 4) :
    field (dataWord data w) (8 * b) 8 = data[4 * w + b]?.getD 0 := by
  obtain rfl | rfl | rfl | rfl : b = 0 ∨ b = 1 ∨ b = 2 ∨ b = 3 := by omega
  all_goals
    simp (disch := decide) only [dataWord, Nat.reduceMul, field_or, field_placed_self, field_placed_disjoint,
      BitVec.or_zero, BitVec.zero_or, Nat.add_zero]

/-- Settles O9: the byte an element holds is the one its data word has there. -/
theorem dataWordsArePackedLittleEndian : Obligations.DataWordsArePackedLittleEndian := by
  intro data w b hb h
  have hbyte := field_dataWord data w hb
  rwa [List.getElem?_eq_getElem h, Option.getD_some] at hbyte

end Sys2Proof.Machine
end

section
/-! DLC_DEC (40_dlc_table.md R122) and FRAME_DEC (42_frame_decoder.md R170). -/

namespace Sys2Proof.Machine

open Sys2Proof.Claims

variable {s : State} {data : List Byte} {n : Nat}

/-! ### DLC_DEC -/

theorem exec_dlcDec_of_unwritten (hw : s.port.written.arg0 = false) :
    exec .dlcDec s = .next (s.refuse .unwrittenOperand) := by
  simp only [exec, execDlcDec, s.arg0?_unwritten hw]

theorem exec_dlcDec_of_code (hw : s.port.written.arg0 = true) (h : field s.port.arg0 4 28 = 0) : exec .dlcDec s
    = .next (s.setRes0 (BitVec.ofNat 32 (dlcToBytes (field s.port.arg0 0 4)))).done := by
  simp only [exec, execDlcDec, s.arg0?_written hw, if_neg (not_not.mpr h)]

/-- A zero-extended code is the code with nothing above it. -/
theorem field_setWidth_code (c : BitVec 4) :
    field (c.setWidth 32) 4 28 = 0 ∧ field (c.setWidth 32) 0 4 = c := by
  rw [← placed_zero c]
  exact ⟨field_placed_disjoint c 0 4 28 (by decide), field_placed_self c 0 (by decide)⟩

/-- Settles O12: DLC_DEC looks a written operand up when nothing stands above its code. -/
theorem dlcDecOutcomes : Obligations.DlcDecOutcomes := by
  refine ⟨rfl, fun s => ⟨fun hw => ?_, fun hw => ⟨fun hwide => ?_, fun n c hrow hc => ?_⟩⟩⟩
  · rw [exec_dlcDec_of_unwritten hw, refusedWith_eq_refuse]
  · rw [exec_dlcDec_of_wide hw hwide, refusedWith_eq_refuse]
  · obtain ⟨hhigh, hlow⟩ := field_setWidth_code c
    rw [← hc] at hhigh hlow
    rw [exec_dlcDec_of_code hw hhigh, hlow, dlcToBytes_of_mem_dlcRows _ hrow, withRes0_ok_eq_done]

/-! ### FRAME_DEC -/

theorem exec_frameDec_of_unwritten
    (h : s.port.written.arg0 = false ∨ s.port.written.arg1 = false ∨ LacksPayload s) :
    exec .frameDec s = .next (s.refuse .unwrittenOperand) := by
  obtain h | h | h := h
  · simp only [exec, execFrameDec, s.arg0?_unwritten h]
  · simp only [exec, execFrameDec, s.arg1?_unwritten h]
    cases s.arg0? <;> rfl
  · simp only [exec, execFrameDec, s.payload?_unwritten h]
    cases s.arg0? <;> cases s.arg1? <;> rfl

section
variable (h0 : s.port.written.arg0 = true) (h1 : s.port.written.arg1 = true) (hp : HasPayload s data)
  (hrow : (n, s.port.arg1.extractLsb' 16 4) ∈ dlcRows)
include h0 h1 hp hrow

theorem exec_frameDec_of_short (h : data.length < min n 8) :
    exec .frameDec s = .next (s.refuse .unsuppliedBytes) := by
  have hshort : data.length < deliveredBytes (wordDlc s.params.layout s.port.arg1) := by
    rwa [deliveredBytes, dlcToBytes_wordDlc _ hrow]
  simp only [exec, execFrameDec, s.arg0?_written h0, s.arg1?_written h1, payload?_of_hasPayload hp, if_pos hshort]

theorem exec_frameDec_of_supplied (h : min n 8 ≤ data.length) :
    exec .frameDec s = .next (s.deliver (dec s.params s.port.arg0 s.port.arg1 data)) := by
  have hlong : ¬ data.length < deliveredBytes (wordDlc s.params.layout s.port.arg1) := by
    rw [deliveredBytes, dlcToBytes_wordDlc _ hrow]
    exact Nat.not_lt.mpr h
  simp only [exec, execFrameDec, s.arg0?_written h0, s.arg1?_written h1, payload?_of_hasPayload hp, if_neg hlong]

end

/-- Settles O21: with its operands written and enough bytes supplied, FRAME_DEC delivers what `dec` says of them. -/
theorem frameDecOutcomes : Obligations.FrameDecOutcomes := by
  refine ⟨rfl, fun s => ⟨fun h => ?refused, fun h0 h1 data hp n hrow => ⟨fun hshort => ?short,
    fun hlong h8 hf => ?overlength, fun hlong h => ?delivered⟩⟩⟩
  case refused => rw [exec_frameDec_of_unwritten h, refusedWith_eq_refuse]
  case short => rw [exec_frameDec_of_short h0 h1 hp hrow hshort, refusedWith_eq_refuse]
  case overlength =>
    rw [exec_frameDec_of_supplied h0 h1 hp hrow hlong, dec_overlength_of_mem_dlcRows hrow h8 hf, deliver_overlength]
  case delivered =>
    rw [exec_frameDec_of_supplied h0 h1 hp hrow hlong, dec_frame_of_mem_dlcRows hrow h, deliver_decodedFrame]

end Sys2Proof.Machine
end

section
/-! Programming the filter tables again (20_memory.md R73), and programming a slot that was disabled (43_filter_table.md
R214). -/

namespace Sys2Proof.Machine

open Sys2Proof.Claims

variable {s t : State} {i : InstId} {r : InstState} {a : Ident} {j k : Nat}

/-! ### Twice is once -/

theorem setIfInBounds_setIfInBounds {α : Type} {n : Nat} (v : Vector α n) (k : Nat) (x : α) :
    (v.setIfInBounds k x).setIfInBounds k x = v.setIfInBounds k x := by
  ext m hm
  simp only [Vector.getElem_setIfInBounds]
  split <;> rfl

theorem programStd_programStd (r : InstState) (k : Nat) (id fmask : Word) :
    (r.programStd k id fmask).programStd k id fmask = r.programStd k id fmask := by
  simp only [InstState.programStd, setIfInBounds_setIfInBounds]

theorem programExt_programExt (r : InstState) (k : Nat) (id fmask : Word) :
    (r.programExt k id fmask).programExt k id fmask = r.programExt k id fmask := by
  simp only [InstState.programExt, setIfInBounds_setIfInBounds]

theorem refuse_refuse (s : State) (why : RefuseReason) : (s.refuse why).refuse why = s.refuse why := rfl

/-- Writing a record and the result code again changes nothing. -/
theorem setInst_done_again (s : State) (i : InstId) (r : InstState) :
    ((s.setInst i r).done.setInst i r).done = (s.setInst i r).done := by cases i <;> rfl

/-- Settles O24: the second run meets the same operands and the same life, so it ends as the first did; a programmed
slot already holds what is written to it. -/
theorem filterProgTwiceIsOnce : Obligations.FilterProgTwiceIsOnce := by
  intro i xtd s t h hlife
  by_cases hw : s.port.written.arg0 = false ∨ s.port.written.arg1 = false ∨ s.port.written.arg2 = false
  · rw [exec_filterProg_of_unwritten hw] at h
    cases h
    rw [exec_filterProg_of_unwritten (s := s.refuse _) hw, refuse_refuse]
  simp only [not_or, Bool.not_eq_false] at hw
  obtain ⟨h0, h1, h2⟩ := hw
  by_cases hr : (s.inst i).life = .running
  case neg =>
    rw [exec_filterProg_of_not_running h0 h1 h2 hr] at h
    cases h
    rw [exec_filterProg_of_not_running (s := s.refuse _) h0 h1 h2 (by simpa using hr), refuse_refuse]
  by_cases hk : slotCount xtd ≤ s.port.arg0.toNat
  · rw [exec_filterProg_of_index_ge h0 h1 h2 hr hk] at h
    cases h
    simp [hr] at hlife
  · rw [Nat.not_le] at hk
    cases xtd with
    | false =>
      rw [exec_filterProg_std h0 h1 h2 hr hk] at h
      cases h
      rw [exec_filterProg_std (by simp [h0]) (by simp [h1]) (by simp [h2]) (by simpa using hlife.trans hr)
        (by simpa [slotCount] using hk)]
      simp only [State.inst_done, State.inst_setInst_self, State.done_port, State.setInst_port,
        programStd_programStd, setInst_done_again]
    | true =>
      rw [exec_filterProg_ext h0 h1 h2 hr hk] at h
      cases h
      rw [exec_filterProg_ext (by simp [h0]) (by simp [h1]) (by simp [h2]) (by simpa using hlife.trans hr)
        (by simpa [slotCount] using hk)]
      simp only [State.inst_done, State.inst_setInst_self, State.done_port, State.setInst_port,
        programExt_programExt, setInst_done_again]

/-! ### Programming a disabled slot -/

theorem InstState.firstMatch_isSome_iff : (r.firstMatch a).isSome = true ↔ ∃ k, r.SlotHit a k := by
  rw [Option.isSome_iff_ne_none, Ne, InstState.firstMatch_eq_none_iff, not_forall_not]

theorem not_stdHit_disabled (v : BitVec 11) : ¬ StdHit .disabled v := nofun

theorem not_extHit_disabled (v : BitVec 29) : ¬ ExtHit .disabled v := nofun

/-- A slot that matches is not the disabled one, and programming leaves every other slot alone. -/
theorem slotHit_programStd {id fmask : Word} (hk : k < 128) (hd : r.sft[k] = .disabled) (hit : r.SlotHit a j) :
    (r.programStd k id fmask).SlotHit a j := by
  cases a with
  | ext v => exact hit
  | std v =>
    obtain ⟨hj, hit⟩ := hit
    have hne : k ≠ j := by
      rintro rfl
      exact not_stdHit_disabled v (hd ▸ hit)
    refine ⟨hj, ?_⟩
    simpa only [InstState.programStd, Vector.getElem_setIfInBounds_ne hj hne] using hit

theorem slotHit_programExt {id fmask : Word} (hk : k < 64) (hd : r.xft[k] = .disabled) (hit : r.SlotHit a j) :
    (r.programExt k id fmask).SlotHit a j := by
  cases a with
  | std v => exact hit
  | ext v =>
    obtain ⟨hj, hit⟩ := hit
    have hne : k ≠ j := by
      rintro rfl
      exact not_extHit_disabled _ (hd ▸ hit)
    refine ⟨hj, ?_⟩
    simpa only [InstState.programExt, Vector.getElem_setIfInBounds_ne hj hne] using hit

/-- More matching slots under the same policy store no fewer data frames. -/
theorem stored_of_more_hits {r' : InstState} (hg : r'.gfp = r.gfp) (hits : ∀ j, r.SlotHit a j → r'.SlotHit a j)
    (h : (r.judge a false).stored = true) : (r'.judge a false).stored = true := by
  rw [judge_dataFrame_stored, Bool.or_eq_true, InstState.firstMatch_isSome_iff] at h ⊢
  rw [hg]
  exact h.imp_left fun ⟨j, hj⟩ => ⟨j, hits j hj⟩

/-- Settles O28: programming a disabled slot keeps every match and the policy. -/
theorem programmingADisabledSlotOnlyAdds : Obligations.ProgrammingADisabledSlotOnlyAdds := by
  intro r k id fmask a h
  refine ⟨fun hk hd => ?_, fun hk hd => ?_⟩
  · exact stored_of_more_hits (r := r) rfl (fun j => slotHit_programStd hk hd) h
  · exact stored_of_more_hits (r := r) rfl (fun j => slotHit_programExt hk hd) h

end Sys2Proof.Machine
end

section
/-! DEINIT (44_controller_context.md R236). -/

namespace Sys2Proof.Machine

open Sys2Proof.Claims

variable {s : State} {i : InstId}

/-- The clock count falls by one, and the clock goes off where that leaves 0 (R237). -/
theorem releaseClock_eq (s : State) : s.releaseClock = { s with
    clkRef := s.clkRef - 1
    clkOn := if s.clkRef - 1 = 0 then false else s.clkOn
    hooks := s.hooks ++ (if s.clkRef - 1 = 0 then [.disablePeripheralClock] else []) } := by
  unfold State.releaseClock
  split
  · rfl
  · rw [List.append_nil]

theorem exec_deinit_of_not_running (hr : (s.inst i).life ≠ .running) :
    exec (.deinit i) s = .next (s.refuse .notRunning) := if_neg (mt (s.running_iff i).mp hr)

theorem exec_deinit_of_running (hr : (s.inst i).life = .running) : exec (.deinit i) s
    = .next (State.releaseClock
        (State.hook (.disableInterrupt i) (State.hook (.releasePins i) (s.setInst i (s.released i))))).done :=
  if_pos ((s.running_iff i).mpr hr)

theorem encode_deinit (i : InstId) : encode (.deinit i) = 0x00000011 ||| (bit (decide (i = .i1)) <<< 8) := by
  cases i <;> rfl

/-- Settles O30: DEINIT of a running controller releases its record, calls the two hooks and releases the clock. -/
theorem deinitOutcomes : Obligations.DeinitOutcomes := by
  refine fun i => ⟨encode_deinit i, fun s => ⟨fun hr => ?_, fun hr => ⟨(s.released i).sft, (s.released i).xft,
    (s.released i).gfp, (s.released i).timing, (s.released i).cfg, ?_⟩⟩⟩
  · rw [exec_deinit_of_not_running hr, refusedWith_eq_refuse]
  · rw [exec_deinit_of_running hr, releaseClock_eq]
    simp only [State.hook_clkRef, State.hook_clkOn, State.hook_hooks, State.setInst_clkRef, State.setInst_clkOn,
      State.setInst_hooks, List.append_assoc]
    cases i <;> rfl

end Sys2Proof.Machine
end

section
/-! From an arrival to its READ (45_bus_agent.md R273, 42_frame_decoder.md R180, R183): the entry of a frame decodes to
the frame. -/

namespace Sys2Proof.Machine

open Sys2Proof.Claims

variable {s : State} {i : InstId} {bf : BusFrame} {v : Verdict}

/-! ### The entry decodes to the frame -/

theorem wordIdent_entryOf (s : State) (v : Verdict) (bf : BusFrame) :
    wordIdent s.params.layout (s.entryOf v bf).r0 = bf.ident := wordIdent_idWord _ _ _ _

theorem wordDlc_r1 (L : Layout) (h : RxHeader) : wordDlc L (h.r1 L) = h.dlc := by
  have hdlc := congrArg RxHeader.dlc (RxHeader.ofWords_r0_r1 L h)
  cases L
  exact hdlc

theorem wordDlc_entryOf (s : State) (v : Verdict) (bf : BusFrame) :
    wordDlc s.params.layout (s.entryOf v bf).r1 = bf.dlc := wordDlc_r1 _ _

/-- A legal data frame carries what its length code says, up to 8 bytes. -/
theorem data_length_of_legal (hlegal : bf.legal = true) (hrtr : bf.rtr = false) :
    bf.data.length = deliveredBytes bf.dlc := by
  rw [BusFrame.legal, beq_iff_eq, hrtr] at hlegal
  exact hlegal

/-- The bytes a decoder delivers of an entry are the frame's. -/
theorem dec_entryOf (v : Verdict) (hlegal : bf.legal = true) (hrtr : bf.rtr = false)
    (ht : s.params.rxOverlength = .truncate) :
    dec s.params (s.entryOf v bf).r0 (s.entryOf v bf).r1 (s.entryOf v bf).data
      = .frame
          { id := identWord bf.ident, isExtended := identXtd bf.ident, isRemote := false, payload := bf.data } := by
  obtain ⟨pad, -, hdata⟩ := entryOf_data s v ((data_length_le_of_legal hlegal).trans (by decide))
  rw [dec_frame (.inr ht), wordIdent_entryOf, wordRtr_entryOf, hrtr, wordDlc_entryOf, hdata,
    ← data_length_of_legal hlegal hrtr, List.take_left]

/-! ### The delivered port -/

/-- A payload of at most 8 bytes fits `RXBUF`. -/
theorem toList_overwrite_take {buf : Vector Byte 8} {payload : List Byte} (h : payload.length ≤ 8) :
    (overwrite buf payload).toList.take payload.length = payload := by
  apply List.ext_getElem
  · simp [h]
  · intro k hk hk'
    rw [List.getElem_take, Vector.getElem_toList, overwrite_getElem, List.getElem?_eq_getElem hk', Option.getD_some]

/-- A stored arrival stands alone in a FIFO that was empty. -/
theorem busRx_of_stored_empty (hr : (s.inst i).life = .running) (hq : (s.inst i).rxf0 = []) (hlegal : bf.legal = true)
    (h : ((s.inst i).judge bf.ident bf.rtr).stored = true) : busRx i bf s
      = s.setInst i { s.inst i with rxf0 := [s.entryOf ((s.inst i).judge bf.ident bf.rtr) bf] } := by
  rw [busRx_of_stored hr hlegal h, store_room _ _ _ (by simp [hq]), hq, List.nil_append]

/-- Settles O38: the READ takes the one entry there is, and it decodes to the frame. -/
theorem arrivedFrameIsReadBack : Obligations.ArrivedFrameIsReadBack := by
  intro i s bf hr hq hbf hrtr hstored hmay ht
  have hlegal := legal_of_legalFrame hbf
  have h8 := data_length_le_of_legal hlegal
  rw [← hrtr] at hstored
  have hread := exec_read_of_head (s := busRx i bf s) (i := i)
    (e := s.entryOf ((s.inst i).judge bf.ident bf.rtr) bf) (rest := [])
  rw [busRx_of_stored_empty hr hq hlegal hstored] at hread ⊢
  have hparams := s.setInst_params i { s.inst i with rxf0 := [s.entryOf ((s.inst i).judge bf.ident bf.rtr) bf] }
  have hfails := readFails_eq_false (hparams ▸ hmay)
  replace hread := hread (by simpa using hr) (by simp) hfails
  rw [hparams, dec_entryOf _ hlegal hrtr ht] at hread
  refine ⟨_, hread, rfl, fun id hid => ?std, fun id hid => ?ext, ?rxlen, toList_overwrite_take h8, by simp⟩
  case std => simp [State.deliver, hid, identWord, frameFlagsWord, identXtd, flagBit]
  case ext => simp [State.deliver, hid, identWord, frameFlagsWord, identXtd, flagBit]
  case rxlen => exact Nat.mod_eq_of_lt (Nat.lt_succ_of_le h8)

end Sys2Proof.Machine
end

section
/-! Single turns and the state after reset (10_state.md R21, 20_memory.md R66, 70_reset_and_hazards.md R330). -/

namespace Sys2Proof.Machine

/-- A command word in the port that decodes runs its command. -/
theorem runPort_of_decode {s : State} {c : Instr} (h : decode s.port.cmd = .ok c) : runPort s = exec c s := by
  rw [runPort, h]

/-- Settles O39: the presented word is the issue's, and the turn advances the position after the command. -/
theorem stepRunsTheDecodedCommand : Obligations.StepRunsTheDecodedCommand := by
  intro s c rest i t ha hs hd hx
  have hrun := runPort_of_decode (s := (s.beginTurn rest).present c) hd
  rw [step_of_host ha hs, hrun, hx, advancePos]
  cases t.hostStop? <;> rfl

/-- Settles O40: a step is what the head of the agenda says. -/
theorem stepTakesTheNextTurn : Obligations.StepTakesTheNextTurn := by
  refine fun s => ⟨fun ha => ?_, fun i rest ha => ?_, fun i bf rest ha => ?_⟩
  · rw [step, ha]
  · rw [step, ha]
    rfl
  · rw [step, ha]
    rfl

/-- Settles O52: each value is read off the reset state; the counter width is 8 and the bits above. -/
theorem resetValues : Obligations.ResetValues := by
  refine ⟨fun i => ?_, rfl, rfl, rfl, rfl, rfl, rfl, rfl, rfl, rfl, fun j h => ?_, rfl, rfl, rfl, rfl, rfl, rfl, rfl,
    rfl, rfl, Nat.le_add_right 8 _⟩
  · cases i <;> exact ⟨rfl, rfl, rfl, rfl, rfl, rfl⟩
  · exact Vector.getElem_replicate h

/-- A record as reset leaves it meets the invariant under any parameters. -/
theorem InstState.reset_inv (p : Params) : InstState.reset.Inv p where
  life := .inl rfl
  fatal := ⟨nofun, nofun⟩
  xidam := rfl
  txqFill := Nat.zero_le _
  tefFill := Nat.zero_le _
  rxf0Fill := Nat.zero_le _
  txqForm := nofun
  rxf0Bytes := nofun
  rxf0Data := nofun
  idle := fun _ => ⟨rfl, rfl, rfl⟩
  cfg := nofun
  gfp := nofun
  timing := nofun
  recWidth := Nat.two_pow_pos _
  tecWidth := Nat.two_pow_pos _

/-- Settles O53: no instance is initialized, nothing is reported and nothing is recorded. -/
theorem resetMeetsTheInvariant : Obligations.ResetMeetsTheInvariant where
  inst0 := InstState.reset_inv _
  inst1 := InstState.reset_inv _
  clkRef := rfl
  clkOn := rfl
  reports := rfl
  status := Nat.zero_le 5
  undef := rfl
  refused := rfl

end Sys2Proof.Machine
end

section
/-! Instances do not interfere (10_state.md R40): every operation on one instance commutes with exchanging the record of
the other, so a command and a bus step do. -/

namespace Sys2Proof.Machine

open Sys2Proof.Claims

variable {i j : InstId} {c : Instr}

/-! ### What a command reads outside the records -/

section
variable (s : State) (j : InstId) (r : InstState)

@[simp] theorem setInst_arg0? : (s.setInst j r).arg0? = s.arg0? := by cases j <;> rfl
@[simp] theorem setInst_arg1? : (s.setInst j r).arg1? = s.arg1? := by cases j <;> rfl
@[simp] theorem setInst_arg2? : (s.setInst j r).arg2? = s.arg2? := by cases j <;> rfl
@[simp] theorem setInst_payload? : (s.setInst j r).payload? = s.payload? := by cases j <;> rfl
@[simp] theorem setInst_timing? : (s.setInst j r).timing? = s.timing? := by cases j <;> rfl
@[simp] theorem setInst_drawBool (k : Nat) : (s.setInst j r).drawBool k = s.drawBool k := by cases j <;> rfl
@[simp] theorem setInst_drawWord (k : Nat) : (s.setInst j r).drawWord k = s.drawWord k := by cases j <;> rfl
@[simp] theorem setInst_submitFails : (s.setInst j r).submitFails = s.submitFails := by cases j <;> rfl
@[simp] theorem setInst_readFails : (s.setInst j r).readFails = s.readFails := by cases j <;> rfl
@[simp] theorem setInst_configFails : (s.setInst j r).configFails = s.configFails := by cases j <;> rfl

/-! ### What a command writes outside the records -/

@[simp] theorem setInst_setStatus (st : Status) : (s.setInst j r).setStatus st = (s.setStatus st).setInst j r := by
  cases j <;> rfl
@[simp] theorem setInst_setRes0 (v : Word) : (s.setInst j r).setRes0 v = (s.setRes0 v).setInst j r := by
  cases j <;> rfl
@[simp] theorem setInst_setRes1 (v : Word) : (s.setInst j r).setRes1 v = (s.setRes1 v).setInst j r := by
  cases j <;> rfl
@[simp] theorem setInst_done : (s.setInst j r).done = s.done.setInst j r := by cases j <;> rfl
@[simp] theorem setInst_refuse (why : RefuseReason) : (s.setInst j r).refuse why = (s.refuse why).setInst j r := by
  cases j <;> rfl
@[simp] theorem setInst_raiseUndefined (n : Nat) :
    (s.setInst j r).raiseUndefined n = (s.raiseUndefined n).setInst j r := by cases j <;> rfl
@[simp] theorem setInst_hook (e : HookEvent) : (s.setInst j r).hook e = (s.hook e).setInst j r := by cases j <;> rfl
@[simp] theorem setInst_answer (v : Verdict) : (s.setInst j r).answer v = (s.answer v).setInst j r := by
  cases j <;> rfl
@[simp] theorem setInst_deliver (d : DecResult) : (s.setInst j r).deliver d = (s.deliver d).setInst j r := by
  cases d <;> cases j <;> rfl

@[simp] theorem setInst_releaseClock : (s.setInst j r).releaseClock = s.releaseClock.setInst j r := by
  rw [releaseClock_eq, releaseClock_eq]
  cases j <;> rfl

end

/-! ### Operations on the other instance -/

section
variable (h : i ≠ j) (s : State) (r : InstState)
include h

theorem setInst_running_ne : (s.setInst j r).running i = s.running i := by
  rw [State.running, State.running, State.inst_setInst_ne _ _ _ _ h]

theorem setInst_comm (a : InstState) : (s.setInst j r).setInst i a = (s.setInst i a).setInst j r := by
  obtain ⟨rfl, rfl⟩ | ⟨rfl, rfl⟩ := InstId.cases_of_ne h <;> rfl

theorem setInst_raiseFatal_ne (kind : FatalKind) (code : Word) :
    (s.setInst j r).raiseFatal i kind code = (s.raiseFatal i kind code).setInst j r := by
  rw [State.raiseFatal, State.raiseFatal, State.inst_setInst_ne _ _ _ _ h, setInst_comm h, setInst_hook]

theorem setInst_submit_ne (e : TxElement) : (s.setInst j r).submit i e = (s.submit i e).setInst j r := by
  simp only [State.submit, State.inst_setInst_ne _ _ _ _ h, setInst_comm h, setInst_submitFails, setInst_drawWord,
    State.setInst_params, setInst_setRes0, setInst_setStatus, setInst_done]
  split
  · rfl
  · split <;> rfl

theorem setInst_failRead_ne : (s.setInst j r).failRead i = (s.failRead i).setInst j r := by
  simp only [State.failRead, State.inst_setInst_ne _ _ _ _ h, setInst_comm h, setInst_drawBool, setInst_drawWord]
  split <;> simp

theorem setInst_bringUp_ne : (s.setInst j r).bringUp i = (s.bringUp i).setInst j r := by
  obtain ⟨rfl, rfl⟩ | ⟨rfl, rfl⟩ := InstId.cases_of_ne h <;> rfl

theorem setInst_released_ne : (s.setInst j r).released i = s.released i := by
  obtain ⟨rfl, rfl⟩ | ⟨rfl, rfl⟩ := InstId.cases_of_ne h <;> rfl

theorem setInst_configuredInst_ne (tm : Timing) : (s.setInst j r).configuredInst i tm = s.configuredInst i tm := by
  obtain ⟨rfl, rfl⟩ | ⟨rfl, rfl⟩ := InstId.cases_of_ne h <;> rfl

theorem setInst_configure_finish_ne (tm : Timing) :
    (configure i tm (s.setInst j r)).finish = (configure i tm s).finish.setInst j r := by
  cases hv : validTiming s.params.timingRange tm with
  | false => rw [configure_invalid (by simpa using hv), configure_invalid hv, setInst_raiseFatal_ne h]
  | true =>
    cases hf : s.configFails with
    | false =>
      rw [configure_done (by simpa using hv) (by simpa using hf), configure_done hv hf, setInst_configuredInst_ne h,
        setInst_comm h, setInst_done]
    | true =>
      rw [configure_failed (by simpa using hv) (by simpa using hf), configure_failed hv hf,
        State.inst_setInst_ne _ _ _ _ h, setInst_comm h, setInst_raiseFatal_ne h, setInst_drawWord]

end

/-! ### Commands -/

/-- Exchange a record in the next state. -/
def withInst (j : InstId) (r : InstState) : Result → Result
  | .next t => .next (t.setInst j r)
  | .fault f => .fault f
  | .refused x => .refused x

@[simp] theorem withInst_next (j : InstId) (r : InstState) (t : State) :
    withInst j r (.next t) = .next (t.setInst j r) := rfl

/-- A command does not read the record of an instance it does not name. -/
theorem exec_setInst_of_not_target (hj : target c ≠ some j) (s : State) (r : InstState) :
    exec c (s.setInst j r) = withInst j r (exec c s) := by
  have hne : ∀ {i}, target c = some i → i ≠ j := fun hi hij => hj (hij ▸ hi)
  cases c with
  | dlcEnc =>
    simp only [exec, execDlcEnc, setInst_arg0?]
    split
    · simp
    · split <;> simp
  | dlcDec =>
    simp only [exec, execDlcDec, setInst_arg0?]
    split
    · simp
    · split <;> simp
  | frameEnc xtd rtr =>
    simp only [exec, execFrameEnc, setInst_arg0?, setInst_payload?, State.setInst_params]
    split
    · split <;> simp
    · simp
  | frameDec =>
    simp only [exec, execFrameDec, setInst_arg0?, setInst_arg1?, setInst_payload?, State.setInst_params]
    split
    · split <;> simp
    · simp
  | write i xtd rtr =>
    simp only [exec, execWrite, setInst_arg0?, setInst_payload?, setInst_running_ne (hne rfl), State.setInst_params]
    split
    · split
      · split <;> simp [setInst_submit_ne (hne rfl)]
      · simp
    · simp
  | read i =>
    simp only [exec, execRead, setInst_running_ne (hne rfl), State.inst_setInst_ne _ _ _ _ (hne rfl),
      setInst_readFails, State.setInst_params, setInst_comm (hne rfl), setInst_failRead_ne (hne rfl)]
    split
    · split
      · simp
      · split <;> simp
    · simp
  | filterProg i xtd =>
    simp only [exec, execFilterProg, setInst_arg0?, setInst_arg1?, setInst_arg2?, setInst_running_ne (hne rfl),
      State.inst_setInst_ne _ _ _ _ (hne rfl), setInst_comm (hne rfl), setInst_raiseFatal_ne (hne rfl)]
    split
    · split
      · split
        · simp
        · split <;> simp
      · simp
    · simp
  | accept i xtd rtr =>
    simp only [exec, execAccept, setInst_arg0?, setInst_running_ne (hne rfl), State.inst_setInst_ne _ _ _ _ (hne rfl)]
    split
    · simp
    · split <;> simp
  | txFree i =>
    simp only [exec, execTxFree, setInst_running_ne (hne rfl), State.inst_setInst_ne _ _ _ _ (hne rfl)]
    split <;> simp
  | init i =>
    simp only [exec, execInit, setInst_timing?, State.inst_setInst_ne _ _ _ _ (hne rfl), setInst_bringUp_ne (hne rfl),
      setInst_configure_finish_ne (hne rfl)]
    split
    · simp
    · split <;> simp
  | deinit i =>
    simp only [exec, execDeinit, setInst_running_ne (hne rfl), setInst_released_ne (hne rfl), setInst_comm (hne rfl)]
    split <;> simp
  | setBitTiming i =>
    simp only [exec, execSetBitTiming, setInst_timing?, setInst_running_ne (hne rfl),
      setInst_configure_finish_ne (hne rfl)]
    split
    · simp
    · split <;> simp
  | rxErr i =>
    simp only [exec, execRxErr, setInst_running_ne (hne rfl), State.inst_setInst_ne _ _ _ _ (hne rfl)]
    split <;> simp
  | txErr i =>
    simp only [exec, execTxErr, setInst_running_ne (hne rfl), State.inst_setInst_ne _ _ _ _ (hne rfl)]
    split <;> simp

/-! ### Bus steps -/

section
variable (h : i ≠ j) (s : State) (r : InstState)
include h

theorem busTx_inst_ne : (busTx i s).inst j = s.inst j := by
  obtain ⟨q, v, out, hs, -⟩ := busTx_frame i s
  rw [hs]
  exact State.inst_setInst_ne _ _ _ _ h.symm

theorem busRx_inst_ne (bf : BusFrame) : (busRx i bf s).inst j = s.inst j := by
  obtain ⟨q, hs, -⟩ := busRx_frame i bf s
  rw [hs, State.inst_setInst_ne _ _ _ _ h.symm]

theorem setInst_busTx_ne : busTx i (s.setInst j r) = (busTx i s).setInst j r := by
  simp only [busTx, setInst_running_ne h, State.inst_setInst_ne _ _ _ _ h, State.setInst_params, State.setInst_emitted,
    setInst_comm h]
  split
  · split
    · rfl
    · cases j <;> rfl
  · rfl

theorem setInst_busRx_ne (bf : BusFrame) : busRx i bf (s.setInst j r) = (busRx i bf s).setInst j r := by
  have hentry : ∀ v, (s.setInst j r).entryOf v bf = s.entryOf v bf := by
    intro v
    cases v <;> cases j <;> rfl
  simp only [busRx, setInst_running_ne h, State.inst_setInst_ne _ _ _ _ h, State.setInst_params, hentry, setInst_comm h]
  split
  · split <;> rfl
  · rfl

end

/-- Settles O48: a command and a bus step leave the other record alone and commute with exchanging it. -/
theorem otherInstanceIsNeitherReadNorWritten : Obligations.OtherInstanceIsNeitherReadNorWritten := by
  refine ⟨fun c j s t r hj h => ⟨(effect_of_exec h).inst_ne hj, ?_⟩, fun i j s r h => ⟨busTx_inst_ne h s,
    setInst_busTx_ne h s r, fun bf => ⟨busRx_inst_ne h s bf, setInst_busRx_ne h s r bf⟩⟩⟩
  rw [exec_setInst_of_not_target hj, h, withInst_next]

end Sys2Proof.Machine
end
